-- ==== Sys2Proof/Word.lean ====
section
/-! DEFINITION. The byte of the serial lines and frames, and the plainest arithmetic the manual's conventions name: clamping and saturation. -/

namespace Sys2Proof

/-- One byte of a serial line, a bus frame, a sample or the script memory (12, opening lines). -/
abbrev Byte := BitVec 8

/-- A value "brought to the nearer end of its stated range" (00, Clamping, saturation and refusal). -/
def clamp (lo hi x : Int) : Int := max lo (min hi x)

/-- A counter that "stops at its stated maximum and does not wrap" (00). -/
def satInc (top n : Nat) : Nat := if n < top then n + 1 else n

end Sys2Proof
end

