-- ==== Sys2Proof/Config.lean ====
section
/-! DEFINITION. What the part fixes (the counts, limits and fixed times of the manual) and the one free value of the model. -/

namespace Sys2Proof.Config

/-- Greatest position, mm (00, Positions). -/
def maxPosition : Nat := 300000
/-- Entries of a report queue (R178). -/
def queueLimit : Nat := 64
/-- Characters of a request line (R171). -/
def lineLimit : Nat := 120
/-- Items one read through a cursor returns (R181). -/
def itemsPerRead : Nat := 6
/-- Distances in a standstill window (R18). -/
def windowSize : Nat := 8
/-- Silence timer of a ranging sensor, ms (R19). -/
def silenceMs : Nat := 200
/-- The longest gap within a sample, ms (R192). -/
def sampleGapMs : Nat := 5
/-- Target-loss timer, ms (R33). -/
def targetLossMs : Nat := 1000
/-- ESR qualification, ms (R135). -/
def esrMs : Nat := 200
/-- Frame slot, ms (R108). -/
def slotMs : Nat := 10
/-- The part of a frame slot in which a reply is taken, ms (R108). -/
def replyMs : Nat := 5
/-- Frame age at which a head is stale, ms (R113). -/
def staleMs : Nat := 500
/-- Pass-through wait, ms (R126). -/
def passThroughMs : Nat := 50
/-- Partial-line timer, ms (R172). -/
def lineMs : Nat := 500
/-- Test dwell, ms (R145). -/
def dwellMs : Nat := 2000
/-- Greatest turn, in frame slots: 480 ms of 10 ms slots (R115). -/
def turnSlots : Nat := 48
/-- Miss count at which a door or a head is lost (R67, R112). -/
def missLimit : Nat := 3
/-- Saturation of the re-berth count (R39). -/
def reberthLimit : Nat := 15
/-- Saturation of the opens count (R105). -/
def opensLimit : Nat := 4294967295
/-- Saturation of the obstacle count (R105). -/
def obstacleLimit : Nat := 65535
/-- Bytes of the script memory (12 section 12.5). -/
def scriptSize : Nat := 16384
/-- Cut-out indices and train doors of a profile (R28, R7). -/
def trainDoorLimit : Nat := 48

/-- FREE VALUE (log 3). Which of the timers that expire in the same millisecond is taken first: the manual lets either be
taken first (R166, R113, R146 and others), so the choice is a constant with no body, applied to the model's own counter. -/
opaque pickFirst : Nat → Nat

end Sys2Proof.Config
end

