-- ==== Sys2Proof/Syntax.lean ====
section
/-! DEFINITION. The commands of the part: one constructor of Instr for each row of spec/opcode_table.json, with the operand types they carry. -/

namespace Sys2Proof

/-- The three links (00, The part in its setting). -/
inductive Link where
  | train | station | panel
  deriving DecidableEq, Repr

/-- The two ranging sensors (02 opening). -/
inductive SensorId where
  | a | b
  deriving DecidableEq, Repr

/-- The filtered levels of the two inputs of platform release, ESR and reset-permit (R135, R140, R160). -/
structure ReleaseInputs where
  esr : Bool
  permit : Bool
  deriving DecidableEq, Repr

/-- A keyword field: one the field knows, or another keyword of the right form (R173). -/
inductive Kw (α : Type) where
  | is (x : α)
  | unknown
  deriving DecidableEq, Repr

/-- Names of the timing settings (R15). -/
inductive Setting where
  | warn | maxhold | pause | opento | closeto | lockto | egress | supv | band | move | approach | defprof
  deriving DecidableEq, Repr

/-- Crossings that count for a mark (R22). -/
inductive MarkDir where
  | inbound | outbound | either
  deriving DecidableEq, Repr

/-- What a counted crossing does (R22). -/
inductive MarkAction where
  | report | overrun | clear
  deriving DecidableEq, Repr

/-- What a zone watches (R118). -/
inductive ZoneKind where
  | doorFront | gap
  deriving DecidableEq, Repr

/-- Maintenance orders (R130, R144). -/
inductive MaintOrder where
  | hold | opn | close
  deriving DecidableEq, Repr

/-- The list an ES reads (R158). -/
inductive EsList where
  | doors | zones
  deriving DecidableEq, Repr

/-- The object of a WA record (R180), with the index as given. -/
inductive WatchArg where
  | door (j : Int) | zone (z : Int) | head (h : Int) | berth | secure | none
  deriving DecidableEq, Repr

/-- How a poll of the door bus ends without a good status frame (R66): nothing began, a frame was begun and not complete,
or a complete frame that is not good. -/
inductive PollEnd where
  | missing
  | late
  | frame (bytes : List Byte)
  deriving DecidableEq, Repr

/-- The commands: the rows of spec/opcode_table.json. A record's first operand is the link whose request line has just
completed; `none` in an optional field is the form `-` (or, in the last field of PR, BM, UL and ES, a field not given). Doors,
profiles, heads, zones and marks are numbered from 1 as the manual numbers them. -/
inductive Instr where
  /-- DC j near far group egress retry force blank window iso (R2). -/
  | dc (l : Link) (j : Int) (near far group : Option Int) (egress : Option (Kw Bool)) (retry force blank window : Option Int) (iso : Option (Kw Bool))
  /-- DX j (R5). -/
  | dx (l : Link) (j : Int)
  /-- PB p L S Tstop Tpartial Omin Dagree rep gap (R9). -/
  | pb (l : Link) (p : Int) (len stop tstop tpartial omin dagree : Option Int) (rep : Option (Kw Bool)) (gap : Option Int)
  /-- PD tn tf (R11). -/
  | pd (l : Link) (tn tf : Option Int)
  /-- PE (R12). -/
  | pe (l : Link)
  /-- PX p (R13). -/
  | px (l : Link) (p : Int)
  /-- PR p [position] (R14). -/
  | pr (l : Link) (p : Int) (pos : Option Int)
  /-- TS name value (R15). -/
  | ts (l : Link) (name : Kw Setting) (value : Option Int)
  /-- SV name (R17). -/
  | sv (l : Link) (name : Kw Setting)
  /-- MK m x dir action (R22). -/
  | mk (l : Link) (m : Int) (x : Option Int) (dir : Kw MarkDir) (action : Kw MarkAction)
  /-- MX m (R22). -/
  | mx (l : Link) (m : Int)
  /-- AR p t r c1 c2 ... (R28). -/
  | ar (l : Link) (p : Int) (t r : Option Int) (cuts : List Int)
  /-- SP r (R30). -/
  | sp (l : Link) (r : Int)
  /-- DP (R36). -/
  | dp (l : Link)
  /-- AC (R37). -/
  | ac (l : Link)
  /-- RJ (R37). -/
  | rj (l : Link)
  /-- BC (R38). -/
  | bc (l : Link)
  /-- BS (R40). -/
  | bs (l : Link)
  /-- BM [position] (R59). -/
  | bm (l : Link) (pos : Option Int)
  /-- UL [position] (R60). -/
  | ul (l : Link) (pos : Option Int)
  /-- DS j (R73). -/
  | ds (l : Link) (j : Int)
  /-- OP g (R86). -/
  | op (l : Link) (g : Int)
  /-- CL g (R90). -/
  | cl (l : Link) (g : Int)
  /-- HD (R100). -/
  | hd (l : Link)
  /-- RM (R102). -/
  | rm (l : Link)
  /-- DR j (R107). -/
  | dr (l : Link) (j : Int)
  /-- RO h f (R115). -/
  | ro (l : Link) (h f : Int)
  /-- ZC z head first count kind d1 d2 thr on off en (R118). -/
  | zc (l : Link) (z : Int) (head first count : Option Int) (kind : Option (Kw ZoneKind)) (d1 d2 thr on off : Option Int) (en : Option (Kw Bool))
  /-- ZX z (R119). -/
  | zx (l : Link) (z : Int)
  /-- HW h (R124). -/
  | hw (l : Link) (h : Int)
  /-- HJ h (R125). -/
  | hj (l : Link) (h : Int)
  /-- PT h b1 b2 ... (R126). -/
  | pt (l : Link) (h : Int) (bytes : List Byte)
  /-- HS h (R128). -/
  | hs (l : Link) (h : Int)
  /-- ZS z (R128). -/
  | zs (l : Link) (z : Int)
  /-- RT j (R134). -/
  | rt (l : Link) (j : Int)
  /-- EO (R136). -/
  | eo (l : Link)
  /-- ER (R140). The second operand is the level of the reset-permit input at the moment the record is taken; `none` when
  nothing new is known of it, and the level as it stands is read (log 6). -/
  | er (l : Link) (permit : Option Bool)
  /-- MQ j (R141). -/
  | mq (l : Link) (j : Int)
  /-- MC j (R143). -/
  | mc (l : Link) (j : Int)
  /-- MO j order (R144). -/
  | mo (l : Link) (j : Int) (order : Kw MaintOrder)
  /-- TC j (R145). -/
  | tc (l : Link) (j : Int)
  /-- MR j (R148). -/
  | mr (l : Link) (j : Int)
  /-- IS j [FORCE] (R149): the second operand is the word after j, `is ()` for FORCE. -/
  | isol (l : Link) (j : Int) (word : Option (Kw Unit))
  /-- IU j (R150). -/
  | iu (l : Link) (j : Int)
  /-- ES [D or Z] [position] (R158). -/
  | es (l : Link) (list : Option (Kw EsList)) (pos : Option Int)
  /-- AS (R169). -/
  | auth (l : Link)
  /-- KA (R164). -/
  | ka (l : Link)
  /-- LM s a t i (R177). -/
  | lm (l : Link) (safety secure state info : Option (Kw Bool))
  /-- WA object [index] (R180). -/
  | wa (l : Link) (obj : Kw WatchArg)
  /-- LC (R183). -/
  | lc (l : Link)
  /-- RS (R185). -/
  | rs (l : Link)
  /-- RU (R189). -/
  | ru (l : Link)
  /-- Bytes received on the input of sensor A or B, by which a sample may become complete (R18, R192). -/
  | rangingSample (x : SensorId) (bytes : List Byte)
  /-- 200 ms pass with no sample (R19). -/
  | silenceExpiry (x : SensorId)
  /-- The target-loss timer expires (R33). -/
  | targetLoss
  /-- A complete status frame is received on the door bus (R66, R68). -/
  | doorGoodReply (bytes : List Byte)
  /-- The poll in flight ends without a good frame (R66). -/
  | doorMiss (how : PollEnd)
  /-- The warning timer of door j expires (R92). -/
  | warningExpiry (j : Nat)
  /-- The max-hold timer of door j expires (R92). -/
  | maxHoldExpiry (j : Nat)
  /-- The pause timer of door j expires (R95). -/
  | pauseExpiry (j : Nat)
  /-- The opening timeout of door j expires (R88). -/
  | openingTimeout (j : Nat)
  /-- The closing timeout of door j expires (R93). -/
  | closingTimeout (j : Nat)
  /-- Lock confirmation of door j expires (R93). -/
  | lockTimerExpiry (j : Nat)
  /-- The phase timer expires in the test OPENING phase (R146). -/
  | testOpenTimeout (j : Nat)
  /-- The test dwell expires (R145). -/
  | dwellExpiry (j : Nat)
  /-- The phase timer expires in the test CLOSING phase (R146). -/
  | testCloseTimeout (j : Nat)
  /-- The test lock timer expires (R146). -/
  | testLockExpiry (j : Nat)
  /-- A 10 ms frame slot begins (R108). -/
  | frameSlot
  /-- The eleven bytes of a frame reply are received on the sensor bus (R111, R191). -/
  | headGoodReply (bytes : List Byte)
  /-- 5 ms of the slot pass without a good reply (R112). -/
  | headMiss
  /-- The frame age of head h reaches 500 ms (R113). -/
  | frameAgeExpiry (h : Nat)
  /-- The bytes of a MAINT reply are received on the sensor bus (R126, R191). -/
  | ptReply (bytes : List Byte)
  /-- 50 ms pass without a MAINT reply (R126). -/
  | ptTimeout
  /-- The filtered levels of AUTO, LOCAL and MAINT after a change (R160). -/
  | keyInputChange (auto loc maint : Bool)
  /-- The filtered level of ESR after a change (R135), with that of reset-permit, which has no row of its own because its change is
  no event (R160, log 40). -/
  | esrInputChange (levels : ReleaseInputs)
  /-- ESR has been active for 200 ms (R135). -/
  | esrQualificationExpiry
  /-- The supervision timer expires (R165). -/
  | supervisionExpiry
  /-- A character is received on a link, with or without a framing error (R171). -/
  | characterReceived (l : Link) (c : Byte) (framing : Bool)
  /-- 500 ms pass from the first character of a line without its CR (R172). -/
  | partialLineTimeout (l : Link)
  /-- The line being sent on a link ends (R179). -/
  | lineSent (l : Link)
  /-- The supply comes up, with the straps as they are fitted (R185, log 27). -/
  | powerOn (rateStrap1 rateStrap0 scriptStrap : Bool)
  /-- The RESET pin is asserted (R185). -/
  | resetPinAssert
  /-- The RESET pin is released (R185). -/
  | resetPinRelease
  /-- The loader reads the next line of the script memory (R186). -/
  | scriptLine
  /-- The supply falls below its working level (R156). -/
  | powerLoss
  deriving DecidableEq, Repr

end Sys2Proof
end

