-- ==== Sys2Proof/WellFormed.lean ====
section
/-! DEFINITION. Which commands can be spelled at all: decimals of 1 to 10 digits (R173), bytes of a frame or sample of the right number, timers of a door or head that exists. -/

namespace Sys2Proof

/-- A decimal field is an optional sign and 1..10 digits (R173). -/
def wfDec (n : Int) : Bool := decide (-9999999999 ≤ n) && decide (n ≤ 9999999999)

/-- An optional decimal field. -/
def wfOpt : Option Int → Bool
  | none => true
  | some n => wfDec n

/-- The index in a WA record is a decimal field. -/
def wfWatch : Kw WatchArg → Bool
  | .is (.door j) => wfDec j
  | .is (.zone z) => wfDec z
  | .is (.head h) => wfDec h
  | .is .berth => true
  | .is .secure => true
  | .is .none => true
  | .unknown => true

/-- A door number of a door's own timer event is 1..32 (R1). -/
def wfDoor (j : Nat) : Bool := decide (1 ≤ j) && decide (j ≤ 32)

/-- The command can be spelled: as a request line of a link, or as an event of the field side. -/
def Instr.wf : Instr → Bool
  | .dc _ j near far group _ retry force blank window _ => wfDec j && wfOpt near && wfOpt far && wfOpt group && wfOpt retry && wfOpt force && wfOpt blank && wfOpt window
  | .dx _ j => wfDec j
  | .pb _ p len stop tstop tpartial omin dagree _ gap => wfDec p && wfOpt len && wfOpt stop && wfOpt tstop && wfOpt tpartial && wfOpt omin && wfOpt dagree && wfOpt gap
  | .pd _ tn tf => wfOpt tn && wfOpt tf
  | .pe _ => true
  | .px _ p => wfDec p
  | .pr _ p pos => wfDec p && wfOpt pos
  | .ts _ _ v => wfOpt v
  | .sv _ _ => true
  | .mk _ m x _ _ => wfDec m && wfOpt x
  | .mx _ m => wfDec m
  | .ar _ p t r cuts => wfDec p && wfOpt t && wfOpt r && cuts.all wfDec
  | .sp _ r => wfDec r
  | .dp _ => true
  | .ac _ => true
  | .rj _ => true
  | .bc _ => true
  | .bs _ => true
  | .bm _ pos => wfOpt pos
  | .ul _ pos => wfOpt pos
  | .ds _ j => wfDec j
  | .op _ g => wfDec g
  | .cl _ g => wfDec g
  | .hd _ => true
  | .rm _ => true
  | .dr _ j => wfDec j
  | .ro _ h f => wfDec h && wfDec f
  | .zc _ z head first count _ d1 d2 thr on off _ => wfDec z && wfOpt head && wfOpt first && wfOpt count && wfOpt d1 && wfOpt d2 && wfOpt thr && wfOpt on && wfOpt off
  | .zx _ z => wfDec z
  | .hw _ h => wfDec h
  | .hj _ h => wfDec h
  | .pt _ h _ => wfDec h
  | .hs _ h => wfDec h
  | .zs _ z => wfDec z
  | .rt _ j => wfDec j
  | .eo _ => true
  | .er _ _ => true
  | .mq _ j => wfDec j
  | .mc _ j => wfDec j
  | .mo _ j _ => wfDec j
  | .tc _ j => wfDec j
  | .mr _ j => wfDec j
  | .isol _ j _ => wfDec j
  | .iu _ j => wfDec j
  | .es _ list pos => wfOpt pos && (list.isSome || pos.isNone)
  | .auth _ => true
  | .ka _ => true
  | .lm _ _ _ _ _ => true
  | .wa _ o => wfWatch o
  | .lc _ => true
  | .rs _ => true
  | .ru _ => true
  | .rangingSample _ bytes => decide (bytes.length ≤ 6)
  | .silenceExpiry _ => true
  | .targetLoss => true
  | .doorGoodReply bytes => bytes.length == 5
  | .doorMiss (.frame bytes) => bytes.length == 5
  | .doorMiss .missing => true
  | .doorMiss .late => true
  | .warningExpiry j => wfDoor j
  | .maxHoldExpiry j => wfDoor j
  | .pauseExpiry j => wfDoor j
  | .openingTimeout j => wfDoor j
  | .closingTimeout j => wfDoor j
  | .lockTimerExpiry j => wfDoor j
  | .testOpenTimeout j => wfDoor j
  | .dwellExpiry j => wfDoor j
  | .testCloseTimeout j => wfDoor j
  | .testLockExpiry j => wfDoor j
  | .frameSlot => true
  | .headGoodReply bytes => bytes.length == 11
  | .headMiss => true
  | .frameAgeExpiry h => decide (1 ≤ h) && decide (h ≤ 12)
  | .ptReply bytes => decide (bytes.length ≤ 20)
  | .ptTimeout => true
  | .keyInputChange _ _ _ => true
  | .esrInputChange _ => true
  | .esrQualificationExpiry => true
  | .supervisionExpiry => true
  | .characterReceived _ _ _ => true
  | .partialLineTimeout _ => true
  | .lineSent _ => true
  | .powerOn _ _ _ => true
  | .resetPinAssert => true
  | .resetPinRelease => true
  | .scriptLine => true
  | .powerLoss => true

end Sys2Proof
end

