-- ==== Sys2Proof/Decode.lean ====
section
/-! DEFINITION. The decoder of table words. spec/opcode_table.json gives no row any bits (its "fields" are empty and it has no "fixed"), so no word spells a command. The reading of request lines, frames and samples is in Machine/Operands.lean and Machine/Frames.lean. -/

namespace Sys2Proof

/-- The command that a word spells by the table's bits: none, since no row of the table gives bits. -/
def decodeTableWord (_nbits _w : Nat) : Option Instr := none

end Sys2Proof
end

