-- ==== Sys2Proof/Machine/State.lean ====
section
/-! DEFINITION. The state of the part as plain data, block by block as the manual names its blocks, and its value right after reset. -/

namespace Sys2Proof.Machine

/-- Doors, profiles, heads, zones and marks, held by index from 0: number n of the manual is index n - 1. -/
abbrev DoorIx := Fin 32
abbrev ProfileIx := Fin 8
abbrev HeadIx := Fin 12
abbrev ZoneIx := Fin 48
abbrev MarkIx := Fin 8

/-- Where a request comes from (R10, R167). -/
inductive Source where
  | link (l : Link)
  | script
  deriving DecidableEq, Repr

/-- Reason codes of a refusal (R175). `badForm` is SYNTAX. -/
inductive Reason where
  | badForm | unknown | range | auth | state | busy | held | emerg | invalid | notFound | starting | timeout | long
  deriving DecidableEq, Repr

/-- The 52 verbs of the part (12 section 12.1). -/
inductive Verb where
  | dc | dx | pb | pd | pe | px | pr | ts | sv | mk | mx | ar | sp | dp | ac | rj | bc | bs | bm | ul | ds | op | cl | hd | rm | dr
  | ro | zc | zx | hw | hj | pt | hs | zs | rt | eo | er | mq | mc | mo | tc | mr | isol | iu | es | auth | ka | lm | wa | lc | rs | ru
  deriving DecidableEq, Repr

/-! Power, pins and straps. -/

/-- Line rates (R184). -/
inductive Rate where
  | r9600 | r19200 | r57600 | r115200
  deriving DecidableEq, Repr

/-- The supply, the levels of the input pins as filtered (true: active or fitted), and the straps as last sampled. -/
structure Power where
  on : Bool
  resetPin : Bool
  auto : Bool
  loc : Bool
  maint : Bool
  esr : Bool
  permit : Bool
  rateStrap1 : Bool
  rateStrap0 : Bool
  scriptStrap : Bool
  rate : Rate
  scriptPresent : Bool
  deriving DecidableEq, Repr

/-! Start-up (11). -/

/-- Start-up phases (R188). -/
inductive Phase where
  | starting | running | configFault
  deriving DecidableEq, Repr

/-- The script loader. `mem` is the serial memory outside the part: bytes by rising address, none of them FF. -/
structure StartUp where
  phase : Phase
  pos : Nat
  line : Nat
  stopped : Bool
  mem : List Host.Cell
  deriving DecidableEq, Repr

/-! Configuration store (01). -/

/-- A configured door table entry (R1). -/
structure DoorEntry where
  near : Nat
  far : Nat
  group : Nat
  egress : Bool
  retry : Nat
  force : Nat
  blank : Nat
  window : Nat
  iso : Bool
  deriving DecidableEq, Repr

/-- Why a profile is INVALID (R7). -/
inductive ProfileFault where
  | count | width | order | length | span | abandoned
  deriving DecidableEq, Repr

/-- Profile states (R7). -/
inductive ProfileState where
  | empty | editing | valid | invalid (why : ProfileFault)
  deriving DecidableEq, Repr

/-- The eight scalar fields of a profile (R7). -/
structure ProfileFields where
  len : Nat
  stop : Nat
  tstop : Nat
  tpartial : Nat
  omin : Nat
  dagree : Nat
  rep : Bool
  gap : Nat
  deriving DecidableEq, Repr

/-- A train door: near and far offsets from the head (R7). -/
structure TrainDoor where
  tn : Nat
  tf : Nat
  deriving DecidableEq, Repr

/-- A profile: its state and, except in EMPTY, its fields and door list (R7). -/
structure Profile where
  state : ProfileState
  fields : Option ProfileFields
  doors : List TrainDoor
  deriving DecidableEq, Repr

/-- The open edit: which profile, and the source that opened it (R10). -/
structure Edit where
  owner : Source
  profile : ProfileIx
  deriving DecidableEq, Repr

/-- The twelve timing settings (R15). -/
structure Settings where
  warn : Nat
  maxhold : Nat
  pause : Nat
  opento : Nat
  closeto : Nat
  lockto : Nat
  egress : Nat
  supv : Nat
  band : Nat
  move : Nat
  approach : Nat
  defprof : Nat
  deriving DecidableEq, Repr

/-- An approach mark (R22). -/
structure Mark where
  x : Nat
  dir : MarkDir
  action : MarkAction
  deriving DecidableEq, Repr

/-- The configuration store, less the door entries (held with each door) and the zone and rotation tables (held with the sensing blocks). -/
structure Store where
  profiles : Vector Profile 8
  edit : Option Edit
  settings : Settings
  marks : Vector (Option Mark) 8
  deriving DecidableEq, Repr

/-! Berth tracker (02, 03). -/

/-- Ranging sensor states (R18, R19). -/
inductive SensorState where
  | silent | ok | noTarget | fault
  deriving DecidableEq, Repr

/-- The context of one ranging sensor (02 section 2.1). `settled` is the judgement made at the last event that changed the window (R20).
`part` is the sample begun and not yet complete, its start byte first, and `gap` the time it may still wait for its next byte (R192). -/
structure Sensor where
  state : SensorState
  last : Option Nat
  window : List Nat
  settled : Bool
  silence : Option Nat
  ref : Option Nat
  part : List Byte
  gap : Nat
  deriving DecidableEq, Repr

/-- The nine berth states (R26). -/
inductive BerthState where
  | empty | approach | awaitProfile | aligned | partialHeld | outOfBerth | alignFault | departing | movedOpen
  deriving DecidableEq, Repr

/-- Confidence of the head estimate (R44, R45). -/
inductive Confidence where
  | dual | single | arbitrated | reported
  deriving DecidableEq, Repr

/-- Class of the stop (R47). -/
inductive StopClass where
  | normal | wide | outside
  deriving DecidableEq, Repr

/-- H with its contributors, confidence, E and class: fields present together (R25). -/
structure Estimate where
  h : Nat
  fromA : Bool
  fromB : Bool
  conf : Confidence
  e : Int
  cls : StopClass
  deriving DecidableEq, Repr

/-- Partial reasons (R54). -/
structure Partials where
  wide : Bool
  confidence : Bool
  uncovered : Bool
  deriving DecidableEq, Repr

/-- Fault reasons of ALIGN_FAULT (R25). -/
inductive AlignFault where
  | disagree | noPosition | noMatch
  deriving DecidableEq, Repr

/-- Out-of-berth reasons (R25). -/
inductive OobReason where
  | tolerance | overrun | rejected
  deriving DecidableEq, Repr

/-- A door map entry (j, k, ov) (R51). Train doors are numbered from 1. -/
structure MapEntry where
  j : DoorIx
  k : Nat
  ov : Nat
  deriving DecidableEq, Repr

/-- The berth record (R25). -/
structure Berth where
  state : BerthState
  profile : Option ProfileIx
  trainId : Option Nat
  r : Option Nat
  cuts : List Nat
  est : Option Estimate
  partials : Partials
  fault : Option AlignFault
  oob : Option OobReason
  accepted : Bool
  map : List MapEntry
  uncovered : List Nat
  reberth : Nat
  egressUsed : List DoorIx
  deriving DecidableEq, Repr

/-- The expected-arrival record (R27). -/
structure Expected where
  profile : ProfileIx
  trainId : Option Nat
  r : Option Nat
  cuts : List Nat
  deriving DecidableEq, Repr

/-- The berth tracker: sensors, previous position (R21), target-loss timer (R33), berth record and expected-arrival record. -/
structure Tracker where
  sensorA : Sensor
  sensorB : Sensor
  prevT : Option Nat
  loss : Option Nat
  berth : Berth
  expected : Option Expected
  deriving DecidableEq, Repr

/-! Doors: the configuration entry, the bus master's figures (04), the sequencer's context (05) and the custody record (07) of one door. -/

/-- Door states (R81). -/
inductive DoorState where
  | unknown | closedLocked | closedUnlocked | opening | opened | warning | closing | reopening | paused | held | released | fault
  deriving DecidableEq, Repr

/-- Fault reasons of a door (R81). -/
inductive FaultReason where
  | comms | openTimeout | closeTimeout | lockFail | drive | supply
  deriving DecidableEq, Repr

/-- Leaf positions (R64). -/
inductive LeafPos where
  | closed | intermediate | openEnd
  deriving DecidableEq, Repr

/-- A good status, less its address and check byte (R64). -/
structure Status where
  pos : LeafPos
  locked : Bool
  overForce : Bool
  handle : Bool
  supplyLow : Bool
  code : Nat
  current : Nat
  deriving DecidableEq, Repr

/-- Drive orders (R63). -/
inductive DriveOrder where
  | hold | opn | close | release
  deriving DecidableEq, Repr

/-- Lamp settings (R63). -/
inductive Lamp where
  | off | steady | flash
  deriving DecidableEq, Repr

/-- The six conditions of a live or latched set (R71, R72). -/
structure Conds where
  comms : Bool
  handle : Bool
  supply : Bool
  drive : Bool
  obstacle : Bool
  lockFail : Bool
  deriving DecidableEq, Repr

/-- Custodies (R130). -/
inductive Custody where
  | sequencer | maint | emergency | isolated
  deriving DecidableEq, Repr

/-- Test phases (R130). -/
inductive TestPhase where
  | none | opening | dwell | closing
  deriving DecidableEq, Repr

/-- The test context (R130, R145): remaining phase time, time since the phase began, lock timer, times recorded so far, peak current. -/
structure TestCtx where
  timer : Nat
  elapsed : Nat
  lock : Option Nat
  openTime : Option Nat
  closeTime : Option Nat
  peak : Nat
  deriving DecidableEq, Repr

/-- Test results (R146). -/
inductive TestResult where
  | pass | obstacle | openTimeout | closeTimeout | lockFail | aborted
  deriving DecidableEq, Repr

/-- The last-test record (R146). -/
structure TestRecord where
  result : TestResult
  openTime : Option Nat
  closeTime : Option Nat
  peak : Nat
  deriving DecidableEq, Repr

/-- Everything the part holds for one door. -/
structure Door where
  entry : Option DoorEntry
  -- door bus master (R67 to R72)
  misses : Nat
  last : Option Status
  ovf : Nat
  lastOrder : Option DriveOrder
  latTrain : Conds
  latStation : Conds
  latPanel : Conds
  -- door sequencer (R81)
  state : DoorState
  fault : Option FaultReason
  warn : Option Nat
  warnHeld : Bool
  maxHold : Option Nat
  pause : Option Nat
  timeout : Option Nat
  lock : Option Nat
  heldFrom : Option DoorState
  retry : Nat
  obstructed : Bool
  lockedSince : Option Nat
  opens : Nat
  obstacles : Nat
  lastTest : Option TestRecord
  -- release unit (R130)
  custody : Custody
  rHandle : Bool
  rPlatform : Bool
  retMaint : Bool
  mOrder : MaintOrder
  testPhase : TestPhase
  test : Option TestCtx
  deriving DecidableEq, Repr

/-! The door bus (04). -/

/-- A poll in flight (R62): the door, the order frame sent, the remaining reply window in quarter milliseconds, and whether the
entry was removed under it, so that its outcome is discarded (R79). -/
structure Poll where
  door : DoorIx
  frame : List Byte
  window : Nat
  discard : Bool
  deriving DecidableEq, Repr

/-- The door bus master: the doors left in the cycle and the poll in flight (R61, R62). -/
structure Bus where
  cycle : List DoorIx
  poll : Option Poll
  deriving DecidableEq, Repr

/-! Sensing (06). -/

/-- Head status of a frame reply (06 section 6.1). -/
inductive HeadStatus where
  | ok | dirty | fault
  deriving DecidableEq, Repr

/-- Head states (R109). -/
inductive HeadState where
  | unseen | ok | dirty | fault | noReply | withdrawn | idle
  deriving DecidableEq, Repr

/-- A head context (R109); its state is derived by R110. `stale` is set when the frame age reaches 500 ms (R113). -/
structure Head where
  f : Nat
  withdrawn : Bool
  skipped : Bool
  misses : Nat
  status : Option HeadStatus
  cells : Option (BitVec 64)
  age : Option Nat
  stale : Bool
  deriving DecidableEq, Repr

/-- What has become of the reply of a slot: still outstanding, spoiled by a first complete reply that is not good, or done with. -/
inductive SlotReply where
  | outstanding | spoiled | done
  deriving DecidableEq, Repr

/-- The frame slot in progress (R108): its head, the request sent, the time left, the reply, and whether the head has been visited ever since. -/
structure Slot where
  head : HeadIx
  frame : List Byte
  left : Nat
  reply : SlotReply
  live : Bool
  deriving DecidableEq, Repr

/-- A pass-through exchange (R126): `wait` is none while it waits for the slot to end, then the time left of its 50 ms. -/
structure PassThrough where
  head : HeadIx
  frame : List Byte
  wait : Option Nat
  deriving DecidableEq, Repr

/-- The scanner (R114): rotation position, and what is in flight on the sensor bus. -/
structure Scan where
  pos : HeadIx
  given : Nat
  ended : Bool
  slot : Option Slot
  pt : Option PassThrough
  deriving DecidableEq, Repr

/-- A zone record (R118). -/
structure ZoneCfg where
  head : HeadIx
  first : Nat
  count : Nat
  kind : ZoneKind
  d1 : DoorIx
  d2 : Option DoorIx
  thr : Nat
  on : Nat
  off : Nat
  en : Bool
  deriving DecidableEq, Repr

/-- Zone states (R120). -/
inductive ZoneState where
  | disabled | notServed | unknown | clear | occupied
  deriving DecidableEq, Repr

/-- A zone context (R120, R122). -/
structure Zone where
  cfg : ZoneCfg
  state : ZoneState
  hits : Nat
  clears : Nat
  lastCount : Option Nat
  deriving DecidableEq, Repr

/-- The sensing scanner and the zone evaluator. -/
structure Sense where
  heads : Vector Head 12
  zones : Vector (Option Zone) 48
  scan : Scan
  deriving DecidableEq, Repr

/-! Release unit (07), authority unit (09), edge-secure evaluator (08). -/

/-- The platform part of the release unit (R135, R136, R142). -/
structure Release where
  esrLatch : Bool
  trainLatch : Bool
  esrTimer : Option Nat
  pendingMaint : List DoorIx
  deriving DecidableEq, Repr

/-- Key positions and effective authorities (R160, R161). -/
inductive Mode where
  | auto | loc | maint
  deriving DecidableEq, Repr

/-- Supervision stages (R163). -/
inductive Stage where
  | normal | late | lost
  deriving DecidableEq, Repr

/-- The authority unit. Supervision is armed exactly while its timer runs (R163). -/
structure Auth where
  key : Mode
  keyFault : Bool
  fallback : Bool
  stage : Stage
  supv : Option Nat
  hold : Bool
  deriving DecidableEq, Repr

/-- Reasons of the edge-secure status, in the order they are reported (R151). -/
inductive SecReason where
  | starting | noConfig | doorNotLocked | doorComms | handle | releaseActive | testRunning | movedOpen | gapOccupied | gapUnknown
  deriving DecidableEq, Repr

/-- The status record and the SECURE output (R151, R156). -/
structure Secure where
  flag : Bool
  reasons : List SecReason
  doors : List (DoorIx × List SecReason)
  zones : List (ZoneIx × ZoneState)
  output : Bool
  deriving DecidableEq, Repr

/-! Link ports (10). -/

/-- A reply record (R174): the verb as written, and either the fields of an OK or the reason of a NO. -/
inductive Reply where
  | ok (verb : Verb) (fields : List String)
  | no (verb : String) (why : Reason)
  deriving DecidableEq, Repr

/-- Report classes, highest first (R176). -/
inductive RClass where
  | safety | secure | state | info
  deriving DecidableEq, Repr

/-- Report kinds (R176). -/
inductive RKind where
  | handle | comms | release | moved | supervision | keyFault | script | overrun | secure | berth | door | zone | head | custody
  | auth | obstacle | watch | mark | test
  deriving DecidableEq, Repr

/-- A report (R176): its kind, the number of its object where the kind has one, and its content as fields of the line. -/
structure Report where
  kind : RKind
  obj : Option Nat
  body : List String
  deriving DecidableEq, Repr

/-- A line being sent (R179). -/
inductive OutLine where
  | reply (r : Reply)
  | loss
  | report (r : Report)
  deriving DecidableEq, Repr

/-- A completed line, read (R173): a record, or a refusal with the verb as it is written in the reply. -/
inductive Parsed where
  | record (i : Instr)
  | bad (verb : String) (why : Reason)
  deriving DecidableEq, Repr

/-- The class mask; SAFETY is always enabled (R177). -/
structure ClassMask where
  secure : Bool
  state : Bool
  info : Bool
  deriving DecidableEq, Repr

/-- What a watch slot may hold (R180). -/
inductive WatchObj where
  | door (i : DoorIx) | zone (z : ZoneIx) | head (h : HeadIx) | berth | secure
  deriving DecidableEq, Repr

/-- A read cursor (R181). -/
structure Cursor where
  pos : Nat
  restart : Bool
  deriving DecidableEq, Repr

/-- The list a list cursor stands on (R181). -/
inductive ListName where
  | none | profile (p : ProfileIx) | doors | zones
  deriving DecidableEq, Repr

/-- The list cursor (R181). -/
structure ListCursor where
  on : ListName
  pos : Nat
  restart : Bool
  deriving DecidableEq, Repr

/-- A link port (10 opening). `replies` holds the replies in line order; `none` is a reply not yet formed. -/
structure Port where
  buf : List Char
  discarding : Bool
  lineTimer : Option Nat
  inHand : Bool
  held : Option Parsed
  replies : List (Option Reply)
  sending : Option OutLine
  queue : List Report
  mask : ClassMask
  loss : Bool
  watch : Option WatchObj
  mapCur : Cursor
  ulCur : Cursor
  listCur : ListCursor
  deriving DecidableEq, Repr

/-- The three ports. -/
structure Ports where
  train : Port
  station : Port
  panel : Port
  deriving DecidableEq, Repr

/-- The state of the part and the queue of the commands that wait for it. `free` is the model's own counter for the choices
taken from Config.pickFirst (log 3). -/
structure State where
  pending : List Instr
  power : Power
  start : StartUp
  cfg : Store
  doors : Vector Door 32
  trk : Tracker
  bus : Bus
  sense : Sense
  rel : Release
  auth : Auth
  sec : Secure
  ports : Ports
  free : Nat
  deriving DecidableEq, Repr

/-- Faults: none. No rule of the manual stops the part; door faults, head faults and CONFIG_FAULT are states of it. -/
inductive Fault where
  deriving DecidableEq, Repr

/-- Refusals. -/
inductive Refusal where
  /-- A command that has no meaning yet: raised by exec's refused arms alone, of which none is left; safe. -/
  | notModelled (mnemonic : String)
  deriving DecidableEq, Repr

/-! Reset values (R185: "every block takes the reset values given in its own chapter"). -/

/-- No condition set (R80). -/
def Conds.clear : Conds := ⟨false, false, false, false, false, false⟩

/-- The pins as the model's reset finds them: the key switch at AUTO, ESR and reset-permit inactive, rate straps open, a
script fitted (DESIGN CHOICE, logs 4 and 5). -/
def Power.reset : Power :=
  { on := true, resetPin := false, auto := true, loc := false, maint := false, esr := false, permit := false,
    rateStrap1 := false, rateStrap0 := false, scriptStrap := true, rate := .r9600, scriptPresent := true }

/-- R185: STARTING, position 0, line 0; the memory lists nothing. -/
def StartUp.reset : StartUp := { phase := .starting, pos := 0, line := 0, stopped := false, mem := [] }

/-- R15: the default of every setting. -/
def Settings.reset : Settings :=
  { warn := 2500, maxhold := 8000, pause := 2000, opento := 4000, closeto := 5000, lockto := 1000, egress := 10000,
    supv := 2000, band := 30, move := 100, approach := 300000, defprof := 0 }

/-- R7: an EMPTY profile. -/
def Profile.reset : Profile := { state := .empty, fields := none, doors := [] }

/-- R7, R10, R15, R22. -/
def Store.reset : Store :=
  { profiles := Vector.replicate 8 Profile.reset, edit := none, settings := Settings.reset, marks := Vector.replicate 8 none }

/-- R18: SILENT, an empty window, no last distance, no reference; R192: no sample begun. -/
def Sensor.reset : Sensor :=
  { state := .silent, last := none, window := [], settled := false, silence := none, ref := none, part := [], gap := 0 }

/-- R25, last column. -/
def Berth.reset : Berth :=
  { state := .empty, profile := none, trainId := none, r := none, cuts := [], est := none, partials := ⟨false, false, false⟩,
    fault := none, oob := none, accepted := false, map := [], uncovered := [], reberth := 0, egressUsed := [] }

/-- R18, R21, R25, R27, R33. -/
def Tracker.reset : Tracker :=
  { sensorA := Sensor.reset, sensorB := Sensor.reset, prevT := none, loss := none, berth := Berth.reset, expected := none }

/-- R1, R80, R81, R130: an unconfigured door. -/
def Door.reset : Door :=
  { entry := none, misses := 0, last := none, ovf := 0, lastOrder := none, latTrain := Conds.clear, latStation := Conds.clear,
    latPanel := Conds.clear, state := .unknown, fault := none, warn := none, warnHeld := false, maxHold := none, pause := none,
    timeout := none, lock := none, heldFrom := none, retry := 0, obstructed := false, lockedSince := none, opens := 0,
    obstacles := 0, lastTest := none, custody := .sequencer, rHandle := false, rPlatform := false, retMaint := false,
    mOrder := .hold, testPhase := .none, test := none }

/-- R80: no polling list. -/
def Bus.reset : Bus := { cycle := [], poll := none }

/-- R109. -/
def Head.reset : Head :=
  { f := 0, withdrawn := false, skipped := false, misses := 0, status := none, cells := none, age := none, stale := false }

/-- R129. -/
def Sense.reset : Sense :=
  { heads := Vector.replicate 12 Head.reset, zones := Vector.replicate 48 none,
    scan := { pos := 0, given := 0, ended := false, slot := none, pt := none } }

/-- R130, R135. -/
def Release.reset : Release := { esrLatch := false, trainLatch := false, esrTimer := none, pendingMaint := [] }

/-- R170, with the key position read from the inputs of Power.reset. -/
def Auth.reset : Auth := { key := .auto, keyFault := false, fallback := false, stage := .normal, supv := none, hold := false }

/-- R151, last column; R156: the output inactive. -/
def Secure.reset : Secure :=
  { flag := false, reasons := [.starting, .noConfig], doors := [], zones := [], output := false }

/-- R177, R178, R180, R181, R184: a port at the end of a device reset. -/
def Port.reset : Port :=
  { buf := [], discarding := false, lineTimer := none, inHand := false, held := none, replies := [], sending := none, queue := [],
    mask := ⟨true, true, true⟩, loss := false, watch := none, mapCur := ⟨0, false⟩, ulCur := ⟨0, false⟩,
    listCur := ⟨.none, 0, false⟩ }

/-- The part right after reset (R185): the phase is STARTING and the script has not been read. -/
def State.reset : State :=
  { pending := [], power := Power.reset, start := StartUp.reset, cfg := Store.reset, doors := Vector.replicate 32 Door.reset,
    trk := Tracker.reset, bus := Bus.reset, sense := Sense.reset, rel := Release.reset, auth := Auth.reset, sec := Secure.reset,
    ports := ⟨Port.reset, Port.reset, Port.reset⟩, free := 0 }

end Sys2Proof.Machine
end

