-- ==== Sys2Proof/Machine/Text.lean ====
section
/-! DEFINITION. How values are written on the links: the keywords of the manual for states, reasons, kinds and verbs, and the line forms of 12 section 12.1. -/

namespace Sys2Proof.Machine

/-- A number as a field. -/
def numF (n : Nat) : String := toString n

/-- A signed number as a field. -/
def intF : Int → String
  | .ofNat n => toString n
  | .negSucc n => "-" ++ toString (n + 1)

/-- An index as the manual numbers it, from 1. -/
def ixF {n : Nat} (i : Fin n) : String := toString (i.val + 1)

/-- An optional number; absent is written `-`. -/
def optF : Option Nat → String
  | none => "-"
  | some n => toString n

def yesNoF (b : Bool) : String := if b then "YES" else "NO"

/-- A level or a mark: set or clear (log 13). -/
def setF (b : Bool) : String := if b then "SET" else "CLEAR"

def levelF (b : Bool) : String := if b then "ACTIVE" else "INACTIVE"

/-- A set of keywords as one field, joined by commas; the empty set is `-` (log 13). -/
def setOfF : List String → String
  | [] => "-"
  | x :: xs => xs.foldl (fun acc y => acc ++ "," ++ y) x

def Reason.text : Reason → String
  | .badForm => "SYNTAX" | .unknown => "UNKNOWN" | .range => "RANGE" | .auth => "AUTH" | .state => "STATE" | .busy => "BUSY"
  | .held => "HELD" | .emerg => "EMERG" | .invalid => "INVALID" | .notFound => "NOTFOUND" | .starting => "STARTING"
  | .timeout => "TIMEOUT" | .long => "LONG"

def Verb.text : Verb → String
  | .dc => "DC" | .dx => "DX" | .pb => "PB" | .pd => "PD" | .pe => "PE" | .px => "PX" | .pr => "PR" | .ts => "TS" | .sv => "SV"
  | .mk => "MK" | .mx => "MX" | .ar => "AR" | .sp => "SP" | .dp => "DP" | .ac => "AC" | .rj => "RJ" | .bc => "BC" | .bs => "BS"
  | .bm => "BM" | .ul => "UL" | .ds => "DS" | .op => "OP" | .cl => "CL" | .hd => "HD" | .rm => "RM" | .dr => "DR" | .ro => "RO"
  | .zc => "ZC" | .zx => "ZX" | .hw => "HW" | .hj => "HJ" | .pt => "PT" | .hs => "HS" | .zs => "ZS" | .rt => "RT" | .eo => "EO"
  | .er => "ER" | .mq => "MQ" | .mc => "MC" | .mo => "MO" | .tc => "TC" | .mr => "MR" | .isol => "IS" | .iu => "IU" | .es => "ES"
  | .auth => "AS" | .ka => "KA" | .lm => "LM" | .wa => "WA" | .lc => "LC" | .rs => "RS" | .ru => "RU"

/-- Every verb of the part, in the order of 12 section 12.1's table. -/
def allVerbs : List Verb :=
  [.dc, .dx, .pb, .pd, .pe, .px, .pr, .ts, .sv, .mk, .mx, .ar, .sp, .dp, .ac, .rj, .bc, .bs, .bm, .ul, .ds, .op, .cl, .hd, .rm, .dr,
   .ro, .zc, .zx, .hw, .hj, .pt, .hs, .zs, .rt, .eo, .er, .mq, .mc, .mo, .tc, .mr, .isol, .iu, .es, .auth, .ka, .lm, .wa, .lc, .rs, .ru]

def settingName : Setting → String
  | .warn => "WARN" | .maxhold => "MAXHOLD" | .pause => "PAUSE" | .opento => "OPENTO" | .closeto => "CLOSETO" | .lockto => "LOCKTO"
  | .egress => "EGRESS" | .supv => "SUPV" | .band => "BAND" | .move => "MOVE" | .approach => "APPROACH" | .defprof => "DEFPROF"

/-- The settings, in the order of R15's table. -/
def allSettings : List Setting :=
  [.warn, .maxhold, .pause, .opento, .closeto, .lockto, .egress, .supv, .band, .move, .approach, .defprof]

def dirName : MarkDir → String
  | .inbound => "INBOUND" | .outbound => "OUTBOUND" | .either => "EITHER"

def actionName : MarkAction → String
  | .report => "REPORT" | .overrun => "OVERRUN" | .clear => "CLEAR"

def zoneKindName : ZoneKind → String
  | .doorFront => "DOOR_FRONT" | .gap => "GAP"

def maintOrderName : MaintOrder → String
  | .hold => "HOLD" | .opn => "OPEN" | .close => "CLOSE"

def Phase.text : Phase → String
  | .starting => "STARTING" | .running => "RUNNING" | .configFault => "CONFIG_FAULT"

def ProfileFault.text : ProfileFault → String
  | .count => "COUNT" | .width => "WIDTH" | .order => "ORDER" | .length => "LENGTH" | .span => "SPAN" | .abandoned => "ABANDONED"

def SensorState.text : SensorState → String
  | .silent => "SILENT" | .ok => "OK" | .noTarget => "NO_TARGET" | .fault => "FAULT"

def BerthState.text : BerthState → String
  | .empty => "EMPTY" | .approach => "APPROACH" | .awaitProfile => "AWAIT_PROFILE" | .aligned => "ALIGNED"
  | .partialHeld => "PARTIAL_HELD" | .outOfBerth => "OUT_OF_BERTH" | .alignFault => "ALIGN_FAULT" | .departing => "DEPARTING"
  | .movedOpen => "MOVED_OPEN"

def Confidence.text : Confidence → String
  | .dual => "DUAL" | .single => "SINGLE" | .arbitrated => "ARBITRATED" | .reported => "REPORTED"

def StopClass.text : StopClass → String
  | .normal => "NORMAL" | .wide => "WIDE" | .outside => "OUTSIDE"

def AlignFault.text : AlignFault → String
  | .disagree => "DISAGREE" | .noPosition => "NO_POSITION" | .noMatch => "NO_MATCH"

def OobReason.text : OobReason → String
  | .tolerance => "TOLERANCE" | .overrun => "OVERRUN" | .rejected => "REJECTED"

/-- Partial reasons in the order of R54's table. -/
def Partials.text (p : Partials) : String :=
  setOfF ((if p.wide then ["WIDE"] else []) ++ (if p.confidence then ["CONFIDENCE"] else []) ++ (if p.uncovered then ["UNCOVERED"] else []))

def DoorState.text : DoorState → String
  | .unknown => "UNKNOWN" | .closedLocked => "CLOSED_LOCKED" | .closedUnlocked => "CLOSED_UNLOCKED" | .opening => "OPENING"
  | .opened => "OPEN" | .warning => "WARNING" | .closing => "CLOSING" | .reopening => "REOPENING" | .paused => "PAUSED"
  | .held => "HELD" | .released => "RELEASED" | .fault => "FAULT"

def FaultReason.text : FaultReason → String
  | .comms => "COMMS" | .openTimeout => "OPEN_TIMEOUT" | .closeTimeout => "CLOSE_TIMEOUT" | .lockFail => "LOCK_FAIL"
  | .drive => "DRIVE" | .supply => "SUPPLY"

def LeafPos.text : LeafPos → String
  | .closed => "CLOSED" | .intermediate => "INTERMEDIATE" | .openEnd => "OPEN_END"

def Custody.text : Custody → String
  | .sequencer => "SEQUENCER" | .maint => "MAINT" | .emergency => "EMERGENCY" | .isolated => "ISOLATED"

def TestPhase.text : TestPhase → String
  | .none => "NONE" | .opening => "OPENING" | .dwell => "DWELL" | .closing => "CLOSING"

def TestResult.text : TestResult → String
  | .pass => "PASS" | .obstacle => "OBSTACLE" | .openTimeout => "OPEN_TIMEOUT" | .closeTimeout => "CLOSE_TIMEOUT"
  | .lockFail => "LOCK_FAIL" | .aborted => "ABORTED"

def HeadStatus.text : HeadStatus → String
  | .ok => "OK" | .dirty => "DIRTY" | .fault => "FAULT"

def HeadState.text : HeadState → String
  | .unseen => "UNSEEN" | .ok => "OK" | .dirty => "DIRTY" | .fault => "FAULT" | .noReply => "NO_REPLY" | .withdrawn => "WITHDRAWN"
  | .idle => "IDLE"

def ZoneState.text : ZoneState → String
  | .disabled => "DISABLED" | .notServed => "NOT_SERVED" | .unknown => "UNKNOWN" | .clear => "CLEAR" | .occupied => "OCCUPIED"

def Mode.text : Mode → String
  | .auto => "AUTO" | .loc => "LOCAL" | .maint => "MAINT"

def Stage.text : Stage → String
  | .normal => "NORMAL" | .late => "LATE" | .lost => "LOST"

def SecReason.text : SecReason → String
  | .starting => "STARTING" | .noConfig => "NO_CONFIG" | .doorNotLocked => "DOOR_NOT_LOCKED" | .doorComms => "DOOR_COMMS"
  | .handle => "HANDLE" | .releaseActive => "RELEASE_ACTIVE" | .testRunning => "TEST_RUNNING" | .movedOpen => "MOVED_OPEN"
  | .gapOccupied => "GAP_OCCUPIED" | .gapUnknown => "GAP_UNKNOWN"

def RKind.text : RKind → String
  | .handle => "HANDLE" | .comms => "COMMS" | .release => "RELEASE" | .moved => "MOVED" | .supervision => "SUPERVISION"
  | .keyFault => "KEYFAULT" | .script => "SCRIPT" | .overrun => "OVERRUN" | .secure => "SECURE" | .berth => "BERTH" | .door => "DOOR"
  | .zone => "ZONE" | .head => "HEAD" | .custody => "CUSTODY" | .auth => "AUTH" | .obstacle => "OBSTACLE" | .watch => "WATCH"
  | .mark => "MARK" | .test => "TEST"

/-- The conditions that are set, in the order of R71's table. -/
def Conds.names (c : Conds) : List String :=
  (if c.comms then ["COMMS"] else []) ++ (if c.handle then ["HANDLE"] else []) ++ (if c.supply then ["SUPPLY"] else []) ++
  (if c.drive then ["DRIVE"] else []) ++ (if c.obstacle then ["OBSTACLE"] else []) ++ (if c.lockFail then ["LOCK_FAIL"] else [])

/-- A set of conditions as one field. -/
def Conds.text (c : Conds) : String := setOfF c.names

/-- The last status as DS carries it (R73 item 3): `-` with none held. -/
def statusF : Option Status → List String
  | none => ["-"]
  | some st => [st.pos.text, if st.locked then "LOCKED" else "UNLOCKED", setF st.overForce, setF st.handle, setF st.supplyLow,
      numF st.code, numF st.current]

/-- One hexadecimal digit, capital. -/
def hexDigit (n : Nat) : Char := if n < 10 then Char.ofNat (48 + n) else Char.ofNat (55 + n)

/-- A byte as two hexadecimal digits (R126). -/
def byteF (b : Byte) : String := String.ofList [hexDigit (b.toNat / 16), hexDigit (b.toNat % 16)]

/-- The 64 cells as 16 hexadecimal digits: each pair a byte, the first holding cells 0 to 7 with cell 0 in bit 0 (12 section 12.1). -/
def cellsF (c : BitVec 64) : String :=
  (List.range 8).foldl (fun acc i => acc ++ byteF (c.extractLsb' (8 * i) 8)) ""

/-- Whether a kind is a state kind (R176); the others are event kinds. -/
def RKind.isState : RKind → Bool
  | .overrun => false | .obstacle => false | .mark => false | .test => false
  | .handle => true | .comms => true | .release => true | .moved => true | .supervision => true | .keyFault => true | .script => true
  | .secure => true | .berth => true | .door => true | .zone => true | .head => true | .custody => true | .auth => true | .watch => true

/-- The class of each kind (R176). -/
def RKind.cls : RKind → RClass
  | .handle => .safety | .comms => .safety | .release => .safety | .moved => .safety | .supervision => .safety | .keyFault => .safety
  | .script => .safety | .overrun => .safety
  | .secure => .secure
  | .berth => .state | .door => .state | .zone => .state | .head => .state | .custody => .state | .auth => .state | .obstacle => .state
  | .watch => .info | .mark => .info | .test => .info

/-- Rank of a class, SAFETY highest (R176). -/
def RClass.rank : RClass → Nat
  | .safety => 3 | .secure => 2 | .state => 1 | .info => 0

/-- A line the part sends, without its CR LF (12 section 12.1). -/
def OutLine.text : OutLine → String
  | .reply (.ok v fs) => fs.foldl (fun acc f => acc ++ " " ++ f) ("OK " ++ v.text)
  | .reply (.no v why) => "NO " ++ v ++ " " ++ why.text
  | .loss => "EV LOSS"
  | .report r =>
    let head := "EV " ++ r.kind.text ++ (match r.obj with | none => "" | some n => " " ++ toString n)
    r.body.foldl (fun acc f => acc ++ " " ++ f) head

/-- The characters of a line on the wire: its text, then CR LF (R179). -/
def OutLine.sent (x : OutLine) : List Char := x.text.toList ++ [Char.ofNat 0x0D, Char.ofNat 0x0A]

end Sys2Proof.Machine
end

