-- ==== Sys2Proof/Machine/Ops.lean ====
section
/-! DEFINITION. The named operations over the state: one accessor per numbered thing, the report queues, replies and line choice of the link ports, the read cursors, and the script memory. -/

namespace Sys2Proof.Machine

/-- An index given as a number from 1, if it exists. -/
def ix? (n : Nat) (x : Int) : Option (Fin n) :=
  if h : 1 ≤ x ∧ x ≤ n then some ⟨(x - 1).toNat, by omega⟩ else none

/-- A value within lo..hi, as a natural number. -/
def within? (lo hi : Nat) (x : Int) : Option Nat := if (lo : Int) ≤ x ∧ x ≤ hi then some x.toNat else none

/-! Accessors. -/

def allDoors : List DoorIx := List.finRange 32
def allHeads : List HeadIx := List.finRange 12
def allZones : List ZoneIx := List.finRange 48
def allMarks : List MarkIx := List.finRange 8
def allProfiles : List ProfileIx := List.finRange 8

def State.door (s : State) (i : DoorIx) : Door := s.doors[i]
def State.setDoor (s : State) (i : DoorIx) (d : Door) : State := { s with doors := s.doors.set i d }
def State.head (s : State) (h : HeadIx) : Head := s.sense.heads[h]
def State.setHead (s : State) (h : HeadIx) (x : Head) : State := { s with sense := { s.sense with heads := s.sense.heads.set h x } }
def State.zone (s : State) (z : ZoneIx) : Option Zone := s.sense.zones[z]
def State.setZone (s : State) (z : ZoneIx) (x : Option Zone) : State := { s with sense := { s.sense with zones := s.sense.zones.set z x } }
def State.setScan (s : State) (x : Scan) : State := { s with sense := { s.sense with scan := x } }
def State.profile (s : State) (p : ProfileIx) : Profile := s.cfg.profiles[p]
def State.setProfile (s : State) (p : ProfileIx) (x : Profile) : State := { s with cfg := { s.cfg with profiles := s.cfg.profiles.set p x } }
def State.mark (s : State) (m : MarkIx) : Option Mark := s.cfg.marks[m]
def State.setMark (s : State) (m : MarkIx) (x : Option Mark) : State := { s with cfg := { s.cfg with marks := s.cfg.marks.set m x } }
def State.settings (s : State) : Settings := s.cfg.settings
def State.berth (s : State) : Berth := s.trk.berth
def State.setBerthRec (s : State) (b : Berth) : State := { s with trk := { s.trk with berth := b } }
def State.setTrk (s : State) (t : Tracker) : State := { s with trk := t }
def State.setRel (s : State) (r : Release) : State := { s with rel := r }
def State.setAuth (s : State) (a : Auth) : State := { s with auth := a }
def State.setBus (s : State) (b : Bus) : State := { s with bus := b }
def State.setPorts (s : State) (p : Ports) : State := { s with ports := p }

/-- The context of a ranging sensor. -/
def Tracker.sensor (t : Tracker) : SensorId → Sensor
  | .a => t.sensorA
  | .b => t.sensorB

def Tracker.setSensor (t : Tracker) (x : SensorId) (v : Sensor) : Tracker :=
  match x with
  | .a => { t with sensorA := v }
  | .b => { t with sensorB := v }

/-- The port of a link. -/
def Ports.get (ps : Ports) : Link → Port
  | .train => ps.train
  | .station => ps.station
  | .panel => ps.panel

def Ports.set (ps : Ports) (l : Link) (p : Port) : Ports :=
  match l with
  | .train => { ps with train := p }
  | .station => { ps with station := p }
  | .panel => { ps with panel := p }

/-- Every port in turn: train, station, panel. -/
def Ports.map (ps : Ports) (f : Port → Port) : Ports := ⟨f ps.train, f ps.station, f ps.panel⟩

def State.port (s : State) (l : Link) : Port := s.ports.get l
def State.setPort (s : State) (l : Link) (p : Port) : State := { s with ports := s.ports.set l p }

/-- Whether door i is configured (R1). -/
def Door.configured (d : Door) : Bool := d.entry.isSome

/-- The configured doors, ascending. -/
def State.configuredDoors (s : State) : List DoorIx := allDoors.filter fun i => (s.door i).configured

/-- A map door: a platform door that appears in the current door map (00, Terms; R51). -/
def Berth.isMapDoor (b : Berth) (i : DoorIx) : Bool := b.map.any fun e => e.j == i

/-- A state that holds a door map (R26). -/
def BerthState.holdsMap : BerthState → Bool
  | .aligned => true | .partialHeld => true | .departing => true | .movedOpen => true
  | .empty => false | .approach => false | .awaitProfile => false | .outOfBerth => false | .alignFault => false

/-- Every map door is CLOSED_LOCKED, as R35 and R36 read it. -/
def State.mapClosed (s : State) : Bool := s.berth.map.all fun e => (s.door e.j).state == .closedLocked

/-- The part takes events: it has its supply and is not held in reset (R185, log 26). -/
def State.alive (s : State) : Bool := s.power.on && !s.power.resetPin

/-! Report queues (R176 to R179). -/

/-- Whether the mask lets a class be queued (R177). -/
def ClassMask.admits (m : ClassMask) : RClass → Bool
  | .safety => true
  | .secure => m.secure
  | .state => m.state
  | .info => m.info

/-- Two reports of one state kind and object (R176). -/
def Report.same (a b : Report) : Bool := a.kind == b.kind && a.obj == b.obj

/-- The first element that satisfies p, and the rest. -/
def takeFirst {α : Type} (p : α → Bool) : List α → Option (α × List α)
  | [] => none
  | x :: xs => if p x then some (x, xs) else (takeFirst p xs).map fun r => (r.1, x :: r.2)

/-- The lowest class rank below n among the entries, if any (R178 step 3). -/
def lowestBelow (n : Nat) (q : List Report) : Option Nat :=
  q.foldl (fun acc r =>
    let k := r.kind.cls.rank
    if k < n then (match acc with | none => some k | some m => some (min m k)) else acc) none

/-- The highest class rank present (R179 step 3). -/
def highestRank (q : List Report) : Nat := q.foldl (fun acc r => max acc r.kind.cls.rank) 0

/-- R178: how a report admitted by the mask is placed in a port's queue; R177: a report of a disabled class is not. -/
def Port.accept (r : Report) (p : Port) : Port :=
  if !p.mask.admits r.kind.cls then p
  else if r.kind.isState && p.queue.any (Report.same r) then
    { p with queue := p.queue.map fun e => if Report.same r e then r else e }
  else if p.queue.length < Config.queueLimit then { p with queue := p.queue ++ [r] }
  else
    match lowestBelow r.kind.cls.rank p.queue with
    | none => { p with loss := true }
    | some k =>
      match takeFirst (fun e => e.kind.cls.rank == k) p.queue with
      | none => { p with loss := true }
      | some (_, rest) => { p with queue := rest ++ [r], loss := true }

/-- A report is offered to all three links, each port judging it by itself (R176). -/
def offer (r : Report) (s : State) : State := s.setPorts (s.ports.map (Port.accept r))

/-- A report that is queued only in some case. -/
def offerIf (b : Bool) (r : Report) (s : State) : State := s.setPorts (if b then s.ports.map (Port.accept r) else s.ports)

/-- A report for one link alone: the WATCH reports of its own slot (R180). -/
def offerTo (l : Link) (r : Report) (s : State) : State := s.setPort l ((s.port l).accept r)

/-- An entry of a report still waiting is brought up to date in place, and nothing is queued where none waits (R157, log 12). -/
def Port.refresh (r : Report) (p : Port) : Port := { p with queue := p.queue.map fun e => if Report.same r e then r else e }

/-- R179: when nothing is being sent, the next line: the earliest reply in line order, then a LOSS line, then the oldest report
of the highest class present. A reply not yet formed holds back those behind it (R174); that LOSS and report lines go out meanwhile is
the model's choice (log 48). -/
def Port.startLine (p : Port) : Port :=
  match p.sending with
  | some _ => p
  | none =>
    match p.replies with
    | some r :: rest => { p with sending := some (.reply r), replies := rest }
    | _ =>
      if p.loss then { p with sending := some .loss, loss := false }
      else
        match takeFirst (fun e => e.kind.cls.rank == highestRank p.queue) p.queue with
        | none => p
        | some (r, rest) => { p with sending := some (.report r), queue := rest }

/-- The first reply still due becomes the one given (R174: replies are kept in line order). -/
def fillFirst (r : Reply) : List (Option Reply) → List (Option Reply)
  | [] => []
  | none :: xs => some r :: xs
  | some x :: xs => some x :: fillFirst r xs

/-- The reply due on a link is formed. -/
def answerOn (l : Link) (r : Reply) (s : State) : State :=
  s.setPort l { s.port l with replies := fillFirst r (s.port l).replies }

/-- A reply formed when its line ends takes its place in line order at once (R174). -/
def answerNow (l : Link) (r : Reply) (s : State) : State :=
  s.setPort l { s.port l with replies := (s.port l).replies ++ [some r] }

/-- What a record comes to at its owning block: taken, with the state it leaves and the fields of its OK reply; refused, which
changes nothing (R175); or taken with its reply still to come (a PT, R126). -/
inductive Res where
  | ok (s : State) (fields : List String)
  | no (why : Reason)
  | wait (s : State)

/-- A check of a record: the first that fails gives the code (R175). -/
def refuseIf (b : Bool) (why : Reason) (k : Res) : Res := if b then .no why else k

/-- The checks of a record that names a door: out of 1..32 RANGE, unconfigured NOTFOUND. -/
def onDoor (j : Int) (s : State) (k : DoorIx → Res) : Res :=
  match ix? 32 j with
  | none => .no .range
  | some i => if (s.door i).configured then k i else .no .notFound

/-- The door that a timer event names; nothing for a number outside 1..32. -/
def onDoorTimer (j : Nat) (s : State) (k : DoorIx → State) : State :=
  match ix? 32 j with
  | none => s
  | some i => k i

/-- Several reports in turn. -/
def offers (rs : List Report) (s : State) : State := rs.foldl (fun s r => offer r s) s

/-! Read cursors (R181, R182). -/

/-- A read of a list of n items at a given position or at the cursor: the start, or none for RANGE. -/
def readStart (cur n : Nat) (pos : Option Int) : Option Nat :=
  match pos with
  | none => some cur
  | some p => within? 0 n p

/-- R181 for the map and uncovered-list cursors: start, mark RESTART, cursor afterwards. -/
def Cursor.read (c : Cursor) (n : Nat) (pos : Option Int) : Option (Nat × Bool × Cursor) :=
  (readStart c.pos n pos).map fun st => (st, c.restart, { pos := st + min Config.itemsPerRead (n - st), restart := false })

/-- R181 and R159 for the list cursor: it starts at 0 when it stands on another list or on none, and the reply then carries RESTART. -/
def ListCursor.read (c : ListCursor) (on : ListName) (n : Nat) (pos : Option Int) : Option (Nat × Bool × ListCursor) :=
  let here := c.on == on
  (readStart (if here then c.pos else 0) n pos).map fun st =>
    (st, c.restart || !here, { on := on, pos := st + min Config.itemsPerRead (n - st), restart := false })

/-- The items of one read. -/
def itemsAt {α : Type} (l : List α) (start : Nat) : List α := (l.drop start).take Config.itemsPerRead

/-- The mark RESTART as reply fields (12 section 12.1). -/
def restartF (b : Bool) : List String := if b then ["RESTART"] else []

/-- R182: a change of a list the list cursor may stand on. -/
def Port.listChanged (on : ListName) (p : Port) : Port :=
  if p.listCur.on == on then { p with listCur := { on := on, pos := 0, restart := true } } else p

/-- R182: the map and the uncovered list change together, and both cursors always stand on them. -/
def Port.mapChanged (p : Port) : Port := { p with mapCur := ⟨0, true⟩, ulCur := ⟨0, true⟩ }

/-- A change of the door list of profile p (R14, R182). -/
def profileListChanged (i : ProfileIx) (s : State) : State := s.setPorts (s.ports.map (Port.listChanged (.profile i)))

/-! The script memory (12 section 12.5): outside the part and read only; an address not listed reads FF. -/

/-- The byte at an address. -/
def memRead (m : List Host.Cell) (a : Nat) : Byte :=
  match m with
  | [] => 0xFF#8
  | (b, v) :: rest => if b == a then v else memRead rest a

/-- The canonical form: addresses strictly rising from at least lo, each below the size, and no byte FF. -/
def memWfFrom (lo : Nat) : List Host.Cell → Bool
  | [] => true
  | (b, v) :: rest => decide (lo ≤ b) && decide (b < Config.scriptSize) && v != 0xFF#8 && memWfFrom (b + 1) rest

/-- The canonical form of the script memory. -/
def memWf (m : List Host.Cell) : Bool := memWfFrom 0 m

/-- What the outside does to lay a byte into the serial memory, keeping the canonical form; no command of the part does it. -/
def memWrite (a : Nat) (v : Byte) : List Host.Cell → List Host.Cell
  | [] => if v == 0xFF#8 then [] else [(a, v)]
  | (b, w) :: rest =>
    if a < b then (if v == 0xFF#8 then (b, w) :: rest else (a, v) :: (b, w) :: rest)
    else if a == b then (if v == 0xFF#8 then rest else (a, v) :: rest)
    else (b, w) :: memWrite a v rest

/-- A run of bytes laid from an address on. -/
def memLoad (a : Nat) : List Byte → List Host.Cell → List Host.Cell
  | [], m => m
  | v :: vs, m => memLoad (a + 1) vs (memWrite a v m)

end Sys2Proof.Machine
end

