-- ==== Sys2Proof/Machine/Flags.lean ====
section
/-! DEFINITION. Everything the part derives from what it holds: live conditions, tracking position, head states, effective windows, effective authority, permission, and the edge-secure status with its re-evaluation. -/

namespace Sys2Proof.Machine

/-! Doors (R71, R98). -/

/-- The live conditions of a door (R71). COMMS is the miss counter at 3: only a good reply or a door unit reset lowers it. -/
def Door.live (d : Door) : Conds :=
  { comms := d.misses == Config.missLimit
    handle := match d.last with | some st => st.handle | none => false
    supply := match d.last with | some st => st.supplyLow | none => false
    drive := match d.last with | some st => st.code != 0 | none => false
    obstacle := match d.entry with | some e => decide (e.blank ≤ d.ovf) | none => false
    lockFail := d.state == .fault && d.fault == some .lockFail }

/-- A motion state (R98). -/
def Door.inMotion (d : Door) : Bool :=
  match d.state with
  | .opening => true | .reopening => true | .closing => true
  | .held => d.heldFrom == some .opening || d.heldFrom == some .reopening || d.heldFrom == some .closing
  | .unknown => false | .closedLocked => false | .closedUnlocked => false | .opened => false | .warning => false | .paused => false
  | .released => false | .fault => false

/-- In EMERGENCY custody with reason set {PLATFORM} (R138). -/
def Door.platformOnly (d : Door) : Bool := d.custody == .emergency && d.rPlatform && !d.rHandle

/-- Position resolution (R74). -/
def resolve (st : Status) : DoorState :=
  match st.pos with
  | .closed => if st.locked then .closedLocked else .closedUnlocked
  | .intermediate => .opened
  | .openEnd => .opened

/-- Resolution of the last status; UNKNOWN where none is held (R74). -/
def Door.resolved (d : Door) : DoorState :=
  match d.last with
  | none => .unknown
  | some st => resolve st

/-- The latched set of a link (R72). -/
def Door.latched (d : Door) : Link → Conds
  | .train => d.latTrain
  | .station => d.latStation
  | .panel => d.latPanel

/-- Conditions set now that were clear before. -/
def Conds.newly (old new : Conds) : Conds :=
  { comms := new.comms && !old.comms, handle := new.handle && !old.handle, supply := new.supply && !old.supply,
    drive := new.drive && !old.drive, obstacle := new.obstacle && !old.obstacle, lockFail := new.lockFail && !old.lockFail }

/-- The union of two sets of conditions. -/
def Conds.or (a b : Conds) : Conds :=
  { comms := a.comms || b.comms, handle := a.handle || b.handle, supply := a.supply || b.supply, drive := a.drive || b.drive,
    obstacle := a.obstacle || b.obstacle, lockFail := a.lockFail || b.lockFail }

/-! Berth tracker (R20, R21). -/

/-- A sensor is usable while its state is OK (R18). -/
def Sensor.usable (x : Sensor) : Bool := x.state == .ok

/-- Largest and smallest of a list of distances. -/
def listMax (l : List Nat) : Nat := l.foldl max 0
def listMin : List Nat → Nat
  | [] => 0
  | x :: xs => xs.foldl min x

/-- The judgement of R20 with the BAND in force. -/
def judgeSettled (band : Nat) (x : Sensor) : Bool :=
  x.usable && x.window.length == Config.windowSize && decide (listMax x.window - listMin x.window ≤ band)

/-- The settled value (R20): the mean of the 8 distances, rounded down. -/
def Sensor.settledValue (x : Sensor) : Nat := x.window.foldl (· + ·) 0 / Config.windowSize

/-- The settled value of a sensor that is usable and settled. -/
def Sensor.present (x : Sensor) : Option Nat := if x.usable && x.settled then some x.settledValue else none

/-- The tracking position T (R21). -/
def Tracker.trackT (t : Tracker) : Option Nat :=
  let a := if t.sensorA.usable then t.sensorA.last else none
  let b := if t.sensorB.usable then t.sensorB.last else none
  match a, b with
  | some x, some y => some (min x y)
  | some x, none => some x
  | none, some y => some y
  | none, none => none

/-- The standstill condition (R31). -/
def Tracker.standstill (t : Tracker) : Bool :=
  (t.sensorA.usable || t.sensorB.usable) && (!t.sensorA.usable || t.sensorA.settled) && (!t.sensorB.usable || t.sensorB.settled)

/-! Sensing (R109, R110, R116, R120, R121). -/

/-- A head is visited (R109). -/
def Head.visited (x : Head) : Bool := decide (0 < x.f) && !x.withdrawn && !x.skipped

/-- The state of a head (R110). -/
def Head.state (x : Head) : HeadState :=
  if x.withdrawn then .withdrawn
  else if x.f == 0 || x.skipped then .idle
  else if x.misses == Config.missLimit then .noReply
  else match x.status with
    | some .ok => .ok
    | some .dirty => .dirty
    | some .fault => .fault
    | none => .unseen

/-- The profile named by the berth record, if any. -/
def State.berthProfile (s : State) : Option ProfileFields :=
  match s.berth.profile with
  | none => none
  | some p => (s.profile p).fields

/-- The gap depth in force: that of the berth's profile while the berth holds a map (R121). -/
def State.gapDepth (s : State) : Option Nat := if s.berth.state.holdsMap then s.berthProfile.map ProfileFields.gap else none

/-- The effective count of a zone (R121). -/
def ZoneCfg.effCount (c : ZoneCfg) (gap : Option Nat) : Nat :=
  match c.kind, gap with
  | .gap, some g => min c.count g
  | .gap, none => c.count
  | .doorFront, _ => c.count

/-- The effective threshold of a zone (R121). -/
def ZoneCfg.effThr (c : ZoneCfg) (gap : Option Nat) : Nat :=
  match c.kind, gap with
  | .gap, some g => min c.thr (min c.count g)
  | .gap, none => c.thr
  | .doorFront, _ => c.thr

/-- A zone names a door as first or second associated door. -/
def ZoneCfg.names (c : ZoneCfg) (i : DoorIx) : Bool := c.d1 == i || c.d2 == some i

/-- The state the first three rows of R120 force on a zone, if one of them applies. -/
def forcedState (c : ZoneCfg) (x : Head) : Option ZoneState :=
  if !c.en then some .disabled
  else if x.skipped && !x.withdrawn then some .notServed
  else if x.stale then some .unknown
  else match x.state with
    | .withdrawn => some .unknown | .idle => some .unknown | .unseen => some .unknown | .fault => some .unknown
    | .noReply => some .unknown
    | .ok => none | .dirty => none

/-- A zone's context taken afresh by R120. -/
def Zone.derive (z : Zone) (x : Head) : Zone :=
  match forcedState z.cfg x with
  | some st => { z with state := st, hits := 0, clears := 0, lastCount := none }
  | none =>
    match z.state with
    | .clear => z | .occupied => z | .unknown => z
    | .disabled => { z with state := .unknown }
    | .notServed => { z with state := .unknown }

/-- The zones configured, with their indices, ascending. -/
def State.zonesList (s : State) : List (ZoneIx × Zone) := allZones.filterMap fun z => (s.zone z).map fun x => (z, x)

/-- Some zone of a kind that names door i is in a state that satisfies p. -/
def State.anyZone (s : State) (k : ZoneKind) (i : DoorIx) (p : ZoneState → Bool) : Bool :=
  s.zonesList.any fun zx => zx.2.cfg.kind == k && zx.2.cfg.names i && p zx.2.state

/-- Some holding zone of door i is OCCUPIED or UNKNOWN (R92). -/
def State.warningHeld (s : State) (i : DoorIx) : Bool := s.anyZone .doorFront i fun st => st == .occupied || st == .unknown

/-- A head serves a door when an enabled zone of its names it (R116). -/
def State.serves (s : State) (h : HeadIx) (i : DoorIx) : Bool :=
  s.zonesList.any fun zx => zx.2.cfg.head == h && zx.2.cfg.en && zx.2.cfg.names i

/-- A head serves some map door (R116, R124). -/
def State.servesMap (s : State) (h : HeadIx) : Bool := s.berth.map.any fun e => s.serves h e.j

/-! Authority (R161, R167) and release (R136, R137). -/

/-- Effective authority (R161). -/
def Auth.effective (a : Auth) : Mode :=
  match a.key with
  | .auto => if a.fallback then .loc else .auto
  | .loc => .loc
  | .maint => .maint

/-- Supervision is to be armed (R163). -/
def State.supvArmed (s : State) : Bool := s.auth.effective == .auto && s.berth.state != .empty

/-- Platform release is active while either latch is set (R136). -/
def Release.active (r : Release) : Bool := r.esrLatch || r.trainLatch

/-- The berth states in which release takes map doors (R137). -/
def BerthState.takesRelease : BerthState → Bool
  | .aligned => true | .partialHeld => true | .movedOpen => true
  | .empty => false | .approach => false | .awaitProfile => false | .outOfBerth => false | .alignFault => false | .departing => false

/-- The rows of the permission table (R167). -/
inductive PermRow where
  | opCl | hdRm | acRj | trainOnly | eo | er | rtBc | panelMaint | isIu | maintOnly | config | ru | open_
  deriving DecidableEq, Repr

/-- The row each verb stands in (R167). -/
def Verb.row : Verb → PermRow
  | .op => .opCl | .cl => .opCl
  | .hd => .hdRm | .rm => .hdRm
  | .ac => .acRj | .rj => .acRj
  | .ar => .trainOnly | .sp => .trainOnly | .dp => .trainOnly
  | .eo => .eo
  | .er => .er
  | .rt => .rtBc | .bc => .rtBc
  | .mq => .panelMaint | .mc => .panelMaint | .mr => .panelMaint | .mo => .panelMaint | .tc => .panelMaint | .dr => .panelMaint
  | .isol => .isIu | .iu => .isIu
  | .hw => .maintOnly | .hj => .maintOnly | .pt => .maintOnly | .rs => .maintOnly
  | .dc => .config | .dx => .config | .pb => .config | .pd => .config | .pe => .config | .px => .config | .zc => .config
  | .zx => .config | .ro => .config | .mk => .config | .mx => .config | .ts => .config
  | .ru => .ru
  | .ds => .open_ | .zs => .open_ | .hs => .open_ | .bs => .open_ | .bm => .open_ | .ul => .open_ | .pr => .open_ | .es => .open_
  | .auth => .open_ | .sv => .open_ | .lm => .open_ | .wa => .open_ | .lc => .open_ | .ka => .open_

/-- The permission table (R167), read against the source, the effective authority and the reset-permit input. -/
def PermRow.permits : PermRow → Source → Mode → Bool → Bool
  | .config, .script, _, _ => true
  | _, .script, _, _ => false
  | .opCl, .link .train, m, _ => m == .auto
  | .opCl, .link .station, _, _ => false
  | .opCl, .link .panel, m, _ => m == .loc
  | .hdRm, .link .train, m, _ => m == .auto
  | .hdRm, .link .station, _, _ => true
  | .hdRm, .link .panel, m, _ => m == .loc || m == .maint
  | .acRj, .link .train, m, _ => m == .auto
  | .acRj, .link .station, m, _ => m == .auto || m == .loc
  | .acRj, .link .panel, m, _ => m == .loc
  | .trainOnly, .link .train, _, _ => true
  | .trainOnly, .link .station, _, _ => false
  | .trainOnly, .link .panel, _, _ => false
  | .eo, .link .train, _, _ => true
  | .eo, .link .station, _, _ => true
  | .eo, .link .panel, _, _ => false
  | .er, .link .train, _, _ => false
  | .er, .link .station, _, _ => false
  | .er, .link .panel, _, permit => permit
  | .rtBc, .link .train, _, _ => false
  | .rtBc, .link .station, _, _ => true
  | .rtBc, .link .panel, _, _ => true
  | .panelMaint, .link .train, _, _ => false
  | .panelMaint, .link .station, _, _ => false
  | .panelMaint, .link .panel, m, _ => m == .loc || m == .maint
  | .isIu, .link .train, _, _ => false
  | .isIu, .link .station, _, _ => true
  | .isIu, .link .panel, m, _ => m == .loc || m == .maint
  | .maintOnly, .link .train, _, _ => false
  | .maintOnly, .link .station, _, _ => false
  | .maintOnly, .link .panel, m, _ => m == .maint
  | .config, .link .train, _, _ => false
  | .config, .link .station, _, _ => true
  | .config, .link .panel, m, _ => m == .maint
  | .ru, .link .train, _, _ => false
  | .ru, .link .station, _, _ => true
  | .ru, .link .panel, _, _ => true
  | .open_, .link _, _, _ => true

/-- The checks between form and the owning block: permission (R167), then the start-up phase (R188). -/
def gate (src : Source) (v : Verb) (s : State) : Option Reason :=
  if !v.row.permits src s.auth.effective s.power.permit then some .auth
  else if v.row == .open_ then none
  else match s.start.phase, src with
    | .starting, .link _ => some .starting
    | .starting, .script => none
    | .configFault, _ => if v == .op || v == .cl || v == .ar || v == .eo then some .state else none
    | .running, _ => none

/-! Edge-secure status (08). -/

/-- The door reasons of one counted door, in the order of R151's table (R152). -/
def Door.reasons (d : Door) : List SecReason :=
  (if d.state == .closedLocked then [] else [.doorNotLocked]) ++
  (if d.live.comms then [.doorComms] else []) ++
  (if d.custody == .emergency && d.rHandle then [.handle] else []) ++
  (if d.custody == .emergency && d.rPlatform then [.releaseActive] else []) ++
  (if d.testPhase == .none then [] else [.testRunning])

/-- A counted door (R152). -/
def Door.counted (d : Door) : Bool := d.configured && d.custody != .isolated

/-- The blocking doors (R152, R154). -/
def State.blockingDoors (s : State) : List (DoorIx × List SecReason) :=
  allDoors.filterMap fun i =>
    let d := s.door i
    if d.counted && !d.reasons.isEmpty then some (i, d.reasons) else none

/-- A counted zone (R153): while a map exists, a GAP zone associated with a map door. -/
def State.countedZone (s : State) (c : ZoneCfg) : Bool := c.kind == .gap && s.berth.map.any fun e => c.names e.j

/-- A zone state that blocks: anything other than CLEAR or DISABLED (R153). -/
def ZoneState.blocks : ZoneState → Bool
  | .clear => false | .disabled => false | .occupied => true | .unknown => true | .notServed => true

/-- The blocking zones (R153, R154). -/
def State.blockingZones (s : State) : List (ZoneIx × ZoneState) :=
  s.zonesList.filterMap fun zx => if s.countedZone zx.2.cfg && zx.2.state.blocks then some (zx.1, zx.2.state) else none

/-- All the reasons of a record, in the order they are reported (R151). -/
def allReasons : List SecReason :=
  [.starting, .noConfig, .doorNotLocked, .doorComms, .handle, .releaseActive, .testRunning, .movedOpen, .gapOccupied, .gapUnknown]

/-- Whether a reason stands (R152, R153), given the blocking lists. -/
def State.reasonStands (s : State) (ds : List (DoorIx × List SecReason)) (zs : List (ZoneIx × ZoneState)) : SecReason → Bool
  | .starting => s.start.phase != .running
  | .noConfig => s.configuredDoors.isEmpty
  | .releaseActive => s.rel.active || ds.any fun d => d.2.contains .releaseActive
  | .movedOpen => s.berth.state == .movedOpen
  | .gapOccupied => zs.any fun z => z.2 == .occupied
  | .gapUnknown => zs.any fun z => z.2 == .unknown
  | .doorNotLocked => ds.any fun d => d.2.contains .doorNotLocked
  | .doorComms => ds.any fun d => d.2.contains .doorComms
  | .handle => ds.any fun d => d.2.contains .handle
  | .testRunning => ds.any fun d => d.2.contains .testRunning

/-- The status record rebuilt from every input as it stands (R155); the output follows the flag (R156). -/
def State.evalSecure (s : State) : Secure :=
  let ds := s.blockingDoors
  let zs := s.blockingZones
  let rs := allReasons.filter (s.reasonStands ds zs)
  { flag := rs.isEmpty, reasons := rs, doors := ds, zones := zs, output := rs.isEmpty }

def flagF (b : Bool) : String := if b then "SECURE" else "NOT_SECURE"

/-- Flag, reasons and counts, as the SECURE report and the ES reply carry them (R157, R158). -/
def Secure.summary (r : Secure) : List String :=
  [flagF r.flag, setOfF (r.reasons.map SecReason.text), numF r.doors.length, numF r.zones.length]

def Secure.report (r : Secure) : Report := { kind := .secure, obj := none, body := r.summary }

/-- A blocking door and a blocking zone as fields (R158). -/
def blockDoorF (x : DoorIx × List SecReason) : List String := [ixF x.1, setOfF (x.2.map SecReason.text)]
def blockZoneF (x : ZoneIx × ZoneState) : List String := [ixF x.1, x.2.text]

/-- The full status of the edge-secure record (R157); the words DOORS and ZONES before its lists are the model's choice (log 13). -/
def Secure.fullF (r : Secure) : List String :=
  [flagF r.flag, setOfF (r.reasons.map SecReason.text), "DOORS"] ++ (r.doors.map blockDoorF).flatten ++ ["ZONES"] ++ (r.zones.map blockZoneF).flatten

/-- An object as WA names it. -/
def WatchObj.textF : WatchObj → List String
  | .door i => ["DOOR", ixF i] | .zone z => ["ZONE", ixF z] | .head h => ["HEAD", ixF h] | .berth => ["BERTH"] | .secure => ["SECURE"]

/-- A WATCH report. -/
def watchReport (o : WatchObj) (fields : List String) : Report := { kind := .watch, obj := none, body := o.textF ++ fields }

/-- A watch on the status has a WATCH report at every change of the record, the blocking lists included (R157). -/
def Port.watchSecure (old new : Secure) (p : Port) : Port :=
  if p.watch == some .secure && old != new then p.accept (watchReport .secure new.fullF) else p

/-- The SECURE report of a change of flag or reasons, or brought up to date where it waits (R157, log 12). -/
def Port.reportSecure (old new : Secure) (p : Port) : Port :=
  if old.flag = new.flag ∧ old.reasons = new.reasons then
    (if old.doors = new.doors ∧ old.zones = new.zones then p else p.refresh new.report)
  else p.accept new.report

/-- What a change of the record does at one port: cursors on a changed list go back (R154, R182), the SECURE report and the WATCH
report of the record are queued (R157). -/
def Port.secureChanged (old new : Secure) (p : Port) : Port :=
  let p := if old.doors = new.doors then p else p.listChanged .doors
  let p := if old.zones = new.zones then p else p.listChanged .zones
  (p.reportSecure old new).watchSecure old new

/-- The re-evaluation of R155. -/
def reeval (s : State) : State :=
  { s with sec := s.evalSecure, ports := s.ports.map (Port.secureChanged s.sec s.evalSecure) }

end Sys2Proof.Machine
end

