-- ==== Sys2Proof/Machine/Frames.lean ====
section
/-! DEFINITION. The frames of the two buses and the ranging samples: check byte, layouts, and how a received frame is judged (12; R65, R66, R190 to R192). -/

namespace Sys2Proof.Machine

/-! Check byte (R65): CRC-8, polynomial x^8 + x^2 + x + 1, initial value 0, most significant bit first, no final inversion. -/

/-- One bit of the division. -/
def crcBit (c : Byte) : Byte := if c.msb then (c <<< 1) ^^^ 0x07#8 else c <<< 1

/-- One byte taken into the check byte. -/
def crcByte (c b : Byte) : Byte := crcBit (crcBit (crcBit (crcBit (crcBit (crcBit (crcBit (crcBit (c ^^^ b))))))))

/-- The check byte over bytes in the order they are sent (R65). -/
def crc8 (bs : List Byte) : Byte := bs.foldl crcByte 0#8

/-- A frame with its check byte appended. -/
def withCheck (bs : List Byte) : List Byte := bs ++ [crc8 bs]

/-- The check byte of a frame, its last byte, matches the bytes before it. -/
def checkMatches (bs : List Byte) : Bool := bs.getLast? == some (crc8 bs.dropLast)

/-- Bit n of a byte as 0 or 1 shifted to that place. -/
def bitAt (n : Nat) (b : Bool) : Byte := if b then 1#8 <<< n else 0#8

/-! Door bus (12 section 12.2). -/

/-- What an order frame tells the module, less address and force limit (R63). -/
structure Order where
  drive : DriveOrder
  lamp : Lamp
  chime : Bool
  deriving DecidableEq, Repr

def DriveOrder.code : DriveOrder → Byte
  | .hold => 0#8 | .opn => 1#8 | .close => 2#8 | .release => 3#8

def Lamp.code : Lamp → Byte
  | .off => 0#8 | .steady => 1#8 | .flash => 2#8

/-- The order frame of door i (12 section 12.2, R190). -/
def orderFrame (i : DoorIx) (force : Nat) (o : Order) : List Byte :=
  withCheck [BitVec.ofNat 8 (i.val + 1), o.drive.code ||| (o.lamp.code <<< 2) ||| bitAt 4 o.chime, BitVec.ofNat 8 force]

def LeafPos.code : LeafPos → Byte
  | .closed => 0#8 | .intermediate => 1#8 | .openEnd => 2#8

/-- Leaf position of a status byte; code 3 stands for none (R190). -/
def leafOf (b : Byte) : Option LeafPos :=
  match b.toNat % 4 with
  | 0 => some .closed
  | 1 => some .intermediate
  | 2 => some .openEnd
  | _ => none

/-- The status frame that a module at door i sends for a status (12 section 12.2). The part never sends one: this is the frame a
sender of commands forms. -/
def statusFrame (i : DoorIx) (st : Status) : List Byte :=
  withCheck [BitVec.ofNat 8 (i.val + 1),
    st.pos.code ||| bitAt 2 st.locked ||| bitAt 3 st.overForce ||| bitAt 4 st.handle ||| bitAt 5 st.supplyLow,
    BitVec.ofNat 8 (st.code % 16), BitVec.ofNat 8 st.current]

/-- The kinds of miss (R66). -/
inductive MissKind where
  | missing | late | badCheck | wrongAddress
  deriving DecidableEq, Repr

def MissKind.text : MissKind → String
  | .missing => "MISSING" | .late => "LATE" | .badCheck => "BAD_CHECK" | .wrongAddress => "WRONG_ADDRESS"

/-- How a poll ends (R66). -/
inductive Verdict where
  | good (st : Status)
  | miss (k : MissKind)
  deriving DecidableEq, Repr

/-- The fields of a status frame's bytes 1 to 3, or none where byte 1 or 2 is not of the layout (R190). -/
def statusOf (b1 b2 b3 : Byte) : Option Status :=
  match leafOf b1 with
  | none => none
  | some p =>
    if b1.toNat < 64 && b2.toNat < 16 then
      some { pos := p, locked := b1.getLsbD 2, overForce := b1.getLsbD 3, handle := b1.getLsbD 4, supplyLow := b1.getLsbD 5,
             code := b2.toNat, current := b3.toNat }
    else none

/-- A complete status frame judged against the polled door (R66, R190): check byte, then layout, then address. -/
def judgeStatus (i : DoorIx) (bs : List Byte) : Verdict :=
  match bs with
  | [a, b1, b2, b3, c] =>
    if c != crc8 [a, b1, b2, b3] then .miss .badCheck
    else match statusOf b1 b2 b3 with
      | none => .miss .badCheck
      | some st => if a.toNat = i.val + 1 then .good st else .miss .wrongAddress
  | _ => .miss .late

/-- The end of a poll as reported on the bus (R66). -/
def judgePoll (i : DoorIx) : PollEnd → Verdict
  | .missing => .miss .missing
  | .late => .miss .late
  | .frame bs => judgeStatus i bs

/-! Sensor bus (12 section 12.3). -/

/-- A FRAME request to a head. -/
def frameRequest (h : HeadIx) : List Byte := withCheck [BitVec.ofNat 8 (h.val + 1), 0x01#8]

/-- A MAINT request with its payload. -/
def maintRequest (h : HeadIx) (payload : List Byte) : List Byte :=
  withCheck ([BitVec.ofNat 8 (h.val + 1), 0x02#8, BitVec.ofNat 8 payload.length] ++ payload)

def HeadStatus.code : HeadStatus → Byte
  | .ok => 0#8 | .dirty => 1#8 | .fault => 2#8

def headStatusOf (b : Byte) : Option HeadStatus :=
  match b.toNat with
  | 0 => some .ok
  | 1 => some .dirty
  | 2 => some .fault
  | _ => none

/-- Eight cell bytes as 64 cells, the first byte holding cells 0 to 7 with cell 0 in bit 0 (12 sections 12.1 and 12.3). -/
def cellsOf : List Byte → BitVec 64
  | [] => 0#64
  | b :: rest => b.setWidth 64 ||| (cellsOf rest <<< 8)

/-- The cell bytes of 64 cells. -/
def cellBytes (c : BitVec 64) : List Byte := (List.range 8).map fun i => c.extractLsb' (8 * i) 8

/-- The FRAME reply of a head; the part never sends one. -/
def frameReply (h : HeadIx) (st : HeadStatus) (c : BitVec 64) : List Byte :=
  withCheck ([BitVec.ofNat 8 (h.val + 1), st.code] ++ cellBytes c)

/-- The reply of a FRAME request, as it stands when 11 bytes are in: status and cells where it is well formed and carries the
requested address (R191, R108). -/
def judgeFrameReply (h : HeadIx) (bs : List Byte) : Option (HeadStatus × BitVec 64) :=
  if bs.length != 11 || !checkMatches bs then none
  else match bs with
    | a :: st :: rest =>
      if a.toNat = h.val + 1 then (headStatusOf st).map fun x => (x, cellsOf (rest.take 8)) else none
    | _ => none

/-- The payload of a MAINT reply that is well formed and carries the requested address (R191); that bytes beyond its length byte's count
make it ill formed is the model's choice (log 39). -/
def judgeMaintReply (h : HeadIx) (bs : List Byte) : Option (List Byte) :=
  if !checkMatches bs then none
  else match bs with
    | a :: t :: n :: rest =>
      if a.toNat = h.val + 1 ∧ t = 0x02#8 ∧ n.toNat ≤ 16 ∧ rest.length = n.toNat + 1 then some rest.dropLast else none
    | _ => none

/-- The MAINT reply of a head; the part never sends one. -/
def maintReply (h : HeadIx) (payload : List Byte) : List Byte :=
  withCheck ([BitVec.ofNat 8 (h.val + 1), 0x02#8, BitVec.ofNat 8 payload.length] ++ payload)

/-! Ranging samples (12 section 12.4). -/

/-- What a sample that is taken carries (R18, R192). -/
inductive Sample where
  | ok (d : Nat)
  | noTarget
  | fault
  deriving DecidableEq, Repr

/-- A sample's six bytes read: none where the check byte or the status is wrong (R192). The distance is clamped (R18). -/
def sampleOf (bs : List Byte) : Option Sample :=
  match bs with
  | [a, st, d2, d1, d0, c] =>
    if a != 0xA5#8 || c != crc8 [st, d2, d1, d0] then none
    else match st.toNat with
      | 0 => some (.ok (min (d2.toNat * 65536 + d1.toNat * 256 + d0.toNat) Config.maxPosition))
      | 1 => some .noTarget
      | 2 => some .fault
      | _ => none
  | _ => none

/-- The bytes of an OK sample at a distance; the part never sends one. -/
def okSampleBytes (d : Nat) : List Byte :=
  let body := [0x00#8, BitVec.ofNat 8 (d / 65536), BitVec.ofNat 8 (d / 256), BitVec.ofNat 8 d]
  [0xA5#8] ++ body ++ [crc8 body]

/-- The bytes of a sample that carries no distance: NO_TARGET or FAULT. -/
def bareSampleBytes (fault : Bool) : List Byte :=
  let body := [if fault then 0x02#8 else 0x01#8, 0#8, 0#8, 0#8]
  [0xA5#8] ++ body ++ [crc8 body]

end Sys2Proof.Machine
end

