-- ==== Sys2Proof/Machine/Doors.lean ====
section
/-! DEFINITION. The door sequencer (05): what a door does on a reply, a timer and a command, how a change of a door is announced, test cycles (R145 to R147), and the grants of the pending maintenance list (R142). -/

namespace Sys2Proof.Machine

/-! States and timers of one door (R84). -/

/-- Every sequencer timer cancelled and a held-from state discarded (R82, R84). -/
def Door.stopTimers (d : Door) : Door :=
  { d with warn := none, warnHeld := false, maxHold := none, pause := none, timeout := none, lock := none, heldFrom := none }

/-- Entry to a state other than FAULT: timers of the state left are cancelled and a fault reason is removed; locked-since becomes
absent unless the door stays CLOSED_LOCKED (R83, R84). -/
def Door.goto (st : DoorState) (d : Door) : Door :=
  { d.stopTimers with
    state := st, fault := none,
    lockedSince := if st == .closedLocked && d.state == .closedLocked then d.lockedSince else none }

/-- Entry to FAULT with a reason: every timer is cancelled (R84). -/
def Door.toFault (r : FaultReason) (d : Door) : Door := { d.goto .fault with fault := some r }

/-- Entry to a motion state: FAULT with reason SUPPLY where the SUPPLY live condition is set (R98), else the state with its timeout. -/
def Door.enterMotion (st : DoorState) (time : Nat) (d : Door) : Door :=
  if d.live.supply then d.toFault .supply else { d.goto st with timeout := some time }

def Door.enterOpening (c : Settings) (d : Door) : Door := d.enterMotion .opening c.opento
def Door.enterReopening (c : Settings) (d : Door) : Door := d.enterMotion .reopening c.opento
def Door.enterClosing (c : Settings) (d : Door) : Door := d.enterMotion .closing c.closeto

/-- Entry to PAUSED (R84). -/
def Door.enterPaused (c : Settings) (d : Door) : Door := { d.goto .paused with pause := some c.pause }

/-- Entry to WARNING: both timers set, the warning timer held where a holding zone holds it (R92). -/
def Door.enterWarning (c : Settings) (held : Bool) (d : Door) : Door :=
  { d.goto .warning with warn := some c.warn, warnHeld := held, maxHold := some c.maxhold }

/-- One more opening from closed (R105). -/
def Door.countOpen (d : Door) : Door := { d with opens := satInc Config.opensLimit d.opens }

/-- One more obstacle (R105). -/
def Door.countObstacle (d : Door) : Door := { d with obstacles := satInc Config.obstacleLimit d.obstacles }

/-- CLOSED_LOCKED or CLOSED_UNLOCKED. -/
def DoorState.isClosed : DoorState → Bool
  | .closedLocked => true | .closedUnlocked => true
  | .unknown => false | .opening => false | .opened => false | .warning => false | .closing => false | .reopening => false
  | .paused => false | .held => false | .released => false | .fault => false

/-- The over-force run is at the door's blanking count: the OBSTACLE live condition (R71, R89, R94). -/
def Door.atBlank (d : Door) : Bool := d.live.obstacle

/-! Reports of a door. -/

/-- State with its fault reason (R73 item 1). -/
def Door.stateF (d : Door) : List String := [d.state.text] ++ (match d.fault with | some r => [r.text] | none => [])

/-- The DOOR report (R78, R85). -/
def doorReport (i : DoorIx) (d : Door) : Report :=
  { kind := .door, obj := some (i.val + 1),
    body := d.stateF ++ [d.custody.text, numF d.retry, setF d.obstructed, d.live.text] ++ statusF d.last }

/-- The DOOR report of a removed entry (R5; its one word is log 13). -/
def doorGoneReport (i : DoorIx) : Report := { kind := .door, obj := some (i.val + 1), body := ["REMOVED"] }

/-- The emergency reason set as a field. -/
def Door.reasonSetF (d : Door) : String := setOfF ((if d.rHandle then ["HANDLE"] else []) ++ (if d.rPlatform then ["PLATFORM"] else []))

/-- Position of a door on the pending maintenance list, from 1 (R131). -/
def positionF (l : List DoorIx) (i : DoorIx) : String :=
  match l.findIdx? (· == i) with
  | some n => numF (n + 1)
  | none => "-"

/-- The CUSTODY report, with the event's name where R131 lists one; a test phase that a reply, a timer or comms loss ends carries none
(log 23). -/
def custodyReport (i : DoorIx) (d : Door) (pend : List DoorIx) (ev : List String) : Report :=
  { kind := .custody, obj := some (i.val + 1),
    body := [d.custody.text, d.reasonSetF, if d.retMaint then "MAINT" else "SEQUENCER", d.testPhase.text, maintOrderName d.mOrder,
             positionF pend i] ++ ev }

/-- Whether a change is one that R131 reports. -/
def Door.custodySame (a b : Door) : Bool :=
  a.custody == b.custody && a.rHandle == b.rHandle && a.rPlatform == b.rPlatform && a.retMaint == b.retMaint &&
  a.testPhase == b.testPhase && a.mOrder == b.mOrder

/-- Whether a change is one that R78 or R85 reports. -/
def Door.viewSame (a b : Door) : Bool := a.state == b.state && a.fault == b.fault && a.live == b.live

/-- The door with every condition that has newly become live latched for all three links (R72). -/
def Door.latch (old new : Door) : Door :=
  let n := old.live.newly new.live
  { new with latTrain := new.latTrain.or n, latStation := new.latStation.or n, latPanel := new.latPanel.or n }

/-- A change of one door made visible: conditions latched (R72), CUSTODY and DOOR reports queued (R131, R78, R85), the status
re-evaluated (R155). -/
def putDoor (i : DoorIx) (d : Door) (ev : List String) (s : State) : State :=
  let old := s.door i
  reeval (offerIf (!old.viewSame d) (doorReport i d)
    (offerIf (!old.custodySame d) (custodyReport i d s.rel.pendingMaint ev)
      (s.setDoor i (old.latch d))))

/-! The pending maintenance list (R141 to R143). -/

/-- The grant conditions (R141). -/
def State.grantable (s : State) (i : DoorIx) : Bool :=
  !s.berth.isMapDoor i && ((s.door i).state == .closedLocked || (s.door i).state == .fault)

/-- A custody report of a door as it stands. -/
def offerCustody (ev : List String) (s : State) (i : DoorIx) : State := offer (custodyReport i (s.door i) s.rel.pendingMaint ev) s

/-- The doors behind door i on a list: those whose position falls by one when it leaves. -/
def behind (i : DoorIx) (l : List DoorIx) : List DoorIx := (l.dropWhile (· != i)).drop 1

/-- Door i in MAINT custody by a grant (R141): order HOLD, test phase NONE, timers cancelled, state kept. -/
def Door.granted (d : Door) : Door := { d.stopTimers with custody := .maint, mOrder := .hold, testPhase := .none, test := none }

/-- A pending request granted and removed from the list; the doors behind it move up, and each such change is reported (R131, R142). -/
def grant (i : DoorIx) (s : State) : State :=
  let rest := behind i s.rel.pendingMaint
  let s := s.setRel { s.rel with pendingMaint := s.rel.pendingMaint.filter (· != i) }
  rest.foldl (offerCustody []) (putDoor i (s.door i).granted ["GRANT"] s)

/-- The judgement of a pending door (R142). -/
def grantIf (s : State) (i : DoorIx) : State :=
  if s.rel.pendingMaint.contains i && s.grantable i then grant i s else s

/-- A pending request cancelled, with its cause (R143). -/
def cancelPending (cause : String) (i : DoorIx) (s : State) : State :=
  if s.rel.pendingMaint.contains i then
    let rest := behind i s.rel.pendingMaint
    let s := s.setRel { s.rel with pendingMaint := s.rel.pendingMaint.filter (· != i) }
    rest.foldl (offerCustody []) (offerCustody ["CANCEL", cause] s i)
  else s

/-- Every pending request cancelled, in list order (R143). -/
def cancelAll (cause : String) (s : State) : State :=
  s.rel.pendingMaint.foldl (fun s i => cancelPending cause i s) s

/-! Announcement of a door state change (R85). -/

/-- The BERTH report's fields, present ones only (R40, log 13). -/
def Berth.fieldsF (b : Berth) : List String :=
  [b.state.text] ++
  (match b.profile with | some p => ["PROFILE", ixF p] | none => []) ++
  (match b.trainId with | some t => ["TRAIN", numF t] | none => []) ++
  (match b.r with | some r => ["R", numF r] | none => []) ++
  (if b.cuts.isEmpty then [] else ["CUTS", setOfF (b.cuts.map numF)]) ++
  (match b.est with
   | some e => ["H", numF e.h, "BY", setOfF ((if e.fromA then ["A"] else []) ++ (if e.fromB then ["B"] else [])),
       e.conf.text, "E", intF e.e, e.cls.text]
   | none => []) ++
  (if b.state == .partialHeld || b.partials != ⟨false, false, false⟩ then ["PARTIAL", b.partials.text] else []) ++
  (match b.fault with | some f => ["FAULT", f.text] | none => []) ++
  (match b.oob with | some o => ["OOB", o.text] | none => []) ++
  (if b.accepted then ["ACCEPTED"] else []) ++
  ["MAP", numF b.map.length, "UNCOVERED", numF b.uncovered.length, "REBERTH", numF b.reberth] ++
  (if b.egressUsed.isEmpty then [] else ["EGRESS", setOfF (b.egressUsed.map ixF)])

def berthReport (b : Berth) : Report := { kind := .berth, obj := none, body := b.fieldsF }

/-- R36: MOVED_OPEN with every map door CLOSED_LOCKED goes to DEPARTING; the target-loss timer is left as it is. -/
def movedOpenExit (s : State) : State :=
  if s.berth.state == .movedOpen && s.mapClosed then
    let b := { s.berth with state := .departing }
    reeval (offer (berthReport b) (s.setBerthRec b))
  else s

/-- R138: a door in EMERGENCY custody with {PLATFORM} that stands closed while it is a map door goes to OPENING. -/
def driveOpen (s : State) (i : DoorIx) : State :=
  let d := s.door i
  if d.platformOnly && s.berth.isMapDoor i && d.state.isClosed then
    putDoor i (d.enterOpening s.settings).countOpen [] s
  else s

/-- The readers of a door state change: release rules (R138), then the berth tracker (R36), then pending grants (R142); log 11. -/
def announceDoor (i : DoorIx) (s : State) : State := grantIf (movedOpenExit (driveOpen s i)) i

/-- A change of one door, announced where its state or fault reason changes (R85). -/
def changeDoor (i : DoorIx) (d : Door) (ev : List String) (s : State) : State :=
  let same := (s.door i).state == d.state && (s.door i).fault == d.fault
  let s := putDoor i d ev s
  if same then s else announceDoor i s

/-! Test cycles (R145 to R147). -/

/-- A test runs on the door. -/
def Door.testing (d : Door) : Bool := d.testPhase != .none

/-- The TEST report (R146). -/
def testReport (i : DoorIx) (r : TestRecord) : Report :=
  { kind := .test, obj := some (i.val + 1), body := [r.result.text, optF r.openTime, optF r.closeTime, numF r.peak] }

/-- The record a test leaves (R146). -/
def TestCtx.record (c : TestCtx) (r : TestResult) : TestRecord :=
  { result := r, openTime := c.openTime, closeTime := c.closeTime, peak := c.peak }

/-- The end of a test, the door's state left to the caller, with the TEST report; nothing where no test runs (R146). -/
def Door.endTest (i : DoorIx) (r : TestResult) (d : Door) : Door × List Report :=
  match d.test with
  | none => (d, [])
  | some c => ({ d with testPhase := .none, test := none, mOrder := .hold, lastTest := some (c.record r) }, [testReport i (c.record r)])

/-- FAULT with a reason; a running test ends ABORTED (R97, R98, R147). -/
def Door.faultNow (i : DoorIx) (r : FaultReason) (d : Door) : Door × List Report :=
  let e := d.endTest i .aborted
  (e.1.toFault r, e.2)

/-- Entry to the OPENING phase (R145). -/
def Door.enterTestOpening (i : DoorIx) (c : Settings) (d : Door) : Door × List Report :=
  let t : TestCtx := { timer := c.opento, elapsed := 0, lock := none, openTime := none, closeTime := none, peak := 0 }
  let d := { d.goto .opening with mOrder := .opn, testPhase := .opening, test := some t }
  if d.live.supply then d.faultNow i .supply else (d, [])

/-- Entry to the CLOSING phase (R145). -/
def Door.enterTestClosing (i : DoorIx) (c : Settings) (d : Door) : Door × List Report :=
  let d : Door :=
   { d.goto .closing with
    mOrder := .close, testPhase := .closing,
    test := d.test.map fun t => { t with timer := c.closeto, elapsed := 0, lock := none } }
  if d.live.supply then d.faultNow i .supply else (d, [])

/-- A reply taken while a test runs: peak current, then the phase's rule (R145). -/
def Door.testReply (i : DoorIx) (c : Settings) (st : Status) (d : Door) : Door × List Report :=
  match d.test with
  | none => (d, [])
  | some t =>
    let t := { t with peak := max t.peak st.current }
    let d := { d with test := some t }
    match d.testPhase with
    | .none => (d, [])
    | .dwell => (d, [])
    | .opening =>
      if st.pos == .openEnd then
        ({ d.goto .opened with
           mOrder := .hold, testPhase := .dwell,
           test := some { t with timer := Config.dwellMs, openTime := some t.elapsed, elapsed := 0 } }, [])
      else if d.atBlank then
        let e := d.endTest i .obstacle
        (e.1.goto .opened, e.2)
      else (d, [])
    | .closing =>
      if st.pos == .closed && st.locked then
        let e := ({ d with test := some { t with closeTime := some t.elapsed } } : Door).endTest i .pass
        (e.1.goto .closedLocked, e.2)
      else if d.atBlank then
        let e := d.endTest i .obstacle
        (e.1.goto .opened, e.2)
      else if st.pos == .closed && t.lock.isNone then ({ d with test := some { t with lock := some c.lockto } }, [])
      else (d, [])

/-! A good reply at the sequencer (R82 to R99). -/

/-- The OBSTACLE report of an opening (R89). -/
def obstacleOpenReport (i : DoorIx) (left : DoorState) (cur : Nat) : Report :=
  { kind := .obstacle, obj := some (i.val + 1), body := [left.text, numF cur] }

/-- The OBSTACLE report of a closing (R94). -/
def obstacleCloseReport (i : DoorIx) (retry limit cur : Nat) : Report :=
  { kind := .obstacle, obj := some (i.val + 1), body := [numF retry, numF limit, numF cur] }

/-- R88 and R89: a reply in OPENING or REOPENING; position is judged before force. -/
def Door.openingReply (i : DoorIx) (c : Settings) (st : Status) (d : Door) : Door × List Report :=
  if st.pos == .openEnd then
    (if d.state == .reopening then d.enterPaused c else d.goto .opened, [])
  else if d.atBlank then (d.countObstacle.goto .opened, [obstacleOpenReport i d.state st.current])
  else (d, [])

/-- R94: an obstacle while closing. The retry count goes no higher than the limit + 1 (R96). -/
def Door.closingObstacle (i : DoorIx) (c : Settings) (st : Status) (d : Door) : Door × List Report :=
  let limit := match d.entry with | some e => e.retry | none => 0
  let n := min (d.retry + 1) (limit + 1)
  let d := { d.countObstacle with retry := n }
  (if n ≤ limit then d.enterReopening c else { d.goto .opened with obstructed := true }, [obstacleCloseReport i n limit st.current])

/-- R93 and R94: a reply in CLOSING; position is judged first. -/
def Door.closingReply (i : DoorIx) (c : Settings) (st : Status) (d : Door) : Door × List Report :=
  if st.pos == .closed && st.locked then
    ({ d.goto .closedLocked with retry := 0, obstructed := false, lockedSince := some 0 }, [])
  else if d.atBlank then d.closingObstacle i c st
  else if st.pos == .closed && d.lock.isNone then ({ d with lock := some c.lockto }, [])
  else (d, [])

/-- A reply in SEQUENCER custody (R83, R88, R93). -/
def Door.sequencerReply (i : DoorIx) (c : Settings) (st : Status) (d : Door) : Door × List Report :=
  match d.state with
  | .unknown => (d.goto (resolve st), [])
  | .closedLocked => (d.goto (resolve st), [])
  | .closedUnlocked => (d.goto (resolve st), [])
  | .opened => (d.goto (resolve st), [])
  | .opening => d.openingReply i c st
  | .reopening => d.openingReply i c st
  | .closing => d.closingReply i c st
  | .warning => (d, [])
  | .paused => (d, [])
  | .held => (d, [])
  | .released => (d, [])
  | .fault => (d, [])

/-- A reply in EMERGENCY custody (R82, R133, R138). -/
def Door.emergencyReply (i : DoorIx) (c : Settings) (isMap : Bool) (st : Status) (d : Door) : Door × List Report :=
  if d.rHandle || d.state == .fault then (d, [])
  else if isMap && d.state == .opening then d.openingReply i c st
  else (d.goto (resolve st), [])

/-- The rules of position and force for the door's custody (R82). -/
def Door.positionRules (i : DoorIx) (c : Settings) (isMap : Bool) (st : Status) (d : Door) : Door × List Report :=
  match d.custody with
  | .sequencer => d.sequencerReply i c st
  | .emergency => d.emergencyReply i c isMap st
  | .maint => if d.testing then d.testReply i c st else if d.state == .fault then (d, []) else (d.goto (resolve st), [])
  | .isolated => if d.state == .fault then (d, []) else (d.goto (resolve st), [])

/-- The state after a cleared fault or recovered comms: RELEASED with HANDLE in the reason set, else position resolution (R69, R99). -/
def Door.settle (st : Status) (d : Door) : Door :=
  if d.custody == .emergency && d.rHandle then d.goto .released else d.goto (resolve st)

/-- The first reply after comms loss (R69). -/
def Door.recover (st : Status) (d : Door) : Door := if st.code == 0 then d.settle st else d.toFault .drive

/-- A DRIVE or SUPPLY fault whose cause a reply shows gone (R99). -/
def Door.faultGone (st : Status) (d : Door) : Bool :=
  d.state == .fault && st.code == 0 && (d.fault == some .drive || (d.fault == some .supply && !st.supplyLow))

/-- R98 then R97, on the state that the other effects of the reply leave. -/
def Door.faultRules (i : DoorIx) (st : Status) (r : Door × List Report) : Door × List Report :=
  let r := if st.supplyLow && r.1.inMotion then
    (let e := r.1.faultNow i .supply; (e.1, r.2 ++ e.2)) else r
  if st.code == 0 then r else (let e := r.1.faultNow i .drive; (e.1, r.2 ++ e.2))

/-- Step 5 of R68: the sequencer's rules, with the recovery of R69 in their place where comms were lost. -/
def Door.replyStep (i : DoorIx) (c : Settings) (isMap recovered : Bool) (st : Status) (d : Door) : Door × List Report :=
  Door.faultRules i st
    (if recovered then (d.recover st, [])
     else if d.faultGone st then (d.settle st, [])
     else d.positionRules i c isMap st)

/-- Steps 1 to 3 of R68: the miss counter, the last status and the over-force run. -/
def Door.takeStatus (st : Status) (d : Door) : Door :=
  { d with misses := 0, last := some st, ovf := if st.overForce then satInc 8 d.ovf else 0 }

/-! Egress reopen (R103, R104). -/

/-- R103: ready for egress reopen. -/
def State.egressReady (s : State) (i : DoorIx) : Bool :=
  let d := s.door i
  d.custody == .sequencer && d.state == .closedLocked &&
  (match d.lockedSince with | some t => decide (t < s.settings.egress) | none => false) &&
  (match d.entry with | some e => e.egress | none => false) &&
  s.berth.state == .aligned && s.berth.isMapDoor i && s.auth.effective == .auto && !s.auth.hold &&
  !s.berth.egressUsed.contains i && !d.live.supply

/-- A door index put into an ascending list. -/
def insertDoor (i : DoorIx) : List DoorIx → List DoorIx
  | [] => [i]
  | x :: xs => if i < x then i :: x :: xs else if i == x then x :: xs else x :: insertDoor i xs

/-- R104: a ready door goes to OPENING and joins the egress-used set. -/
def egressReopen (s : State) (i : DoorIx) : State :=
  if s.egressReady i then
    let s := changeDoor i ((s.door i).enterOpening s.settings).countOpen [] s
    let b := { s.berth with egressUsed := insertDoor i s.berth.egressUsed }
    offer (berthReport b) (s.setBerthRec b)
  else s

/-- The second event of R104: entry into CLOSED_LOCKED from CLOSING while a GAP zone of the door is OCCUPIED. -/
def egressAtLock (wasClosing : Bool) (i : DoorIx) (s : State) : State :=
  if wasClosing && (s.door i).state == .closedLocked && s.anyZone .gap i (· == .occupied) then egressReopen s i else s

/-! Warning hold (R92). -/

/-- A door's warning timer after a change among its holding zones. -/
def Door.rehold (c : Settings) (held : Bool) (d : Door) : Door :=
  if d.state == .warning && held != d.warnHeld then { d with warnHeld := held, warn := if held then some c.warn else d.warn } else d

/-- The sequencer reads the holding zones of door i (R92). -/
def warnCheck (s : State) (i : DoorIx) : State := s.setDoor i ((s.door i).rehold s.settings (s.warningHeld i))

/-! Group commands (R86, R87, R90, R91). -/

/-- OP considers door i: the door and whether it counts as acted (R87). -/
def Door.opEffect (c : Settings) (d : Door) : Door × Bool :=
  if d.custody != .sequencer || d.live.supply then (d, false)
  else match d.state with
    | .closedLocked => ((d.enterOpening c).countOpen, true)
    | .closedUnlocked => ((d.enterOpening c).countOpen, true)
    | .warning => ({ d.enterOpening c with retry := 0 }, true)
    | .closing => ({ d.enterOpening c with retry := 0 }, true)
    | .paused => ({ d.enterOpening c with retry := 0 }, true)
    | .opening => (d, true)
    | .opened => (d, true)
    | .reopening => (d, true)
    | .unknown => (d, false)
    | .fault => (d, false)
    | .held => (d, false)
    | .released => (d, false)

/-- A fault that CL and an emergency reset clear: a timeout or a lock failure (R91, R99). -/
def Door.softFault (d : Door) : Bool :=
  d.fault == some .openTimeout || d.fault == some .closeTimeout || d.fault == some .lockFail

/-- CL considers door i (R91). -/
def Door.clEffect (c : Settings) (held : Bool) (d : Door) : Door × Bool :=
  let warn := { d.enterWarning c held with retry := 0, obstructed := false }
  if d.custody != .sequencer then (d, false)
  else match d.state with
    | .opened => (warn, true)
    | .opening => (warn, true)
    | .reopening => (warn, true)
    | .paused => (warn, true)
    | .fault => if d.softFault then (warn, true) else (d, false)
    | .closedUnlocked => (d.enterClosing c, true)
    | .warning => (d, true)
    | .closing => (d, true)
    | .closedLocked => (d, true)
    | .unknown => (d, false)
    | .held => (d, false)
    | .released => (d, false)

/-- Whether a door is of the group named; group 0 names every group (R86, R90). -/
def Door.inGroup (g : Nat) (d : Door) : Bool :=
  match d.entry with
  | some e => g == 0 || e.group == g
  | none => false

/-- A group command over the doors it considers, in ascending index: the state, the number acted and the number skipped. -/
def groupCommand (f : State → DoorIx → Door × Bool) (is : List DoorIx) (s : State) : State × Nat × Nat :=
  is.foldl (fun acc i =>
    let r := f acc.1 i
    if r.2 then (changeDoor i r.1 [] acc.1, acc.2.1 + 1, acc.2.2) else (acc.1, acc.2.1, acc.2.2 + 1)) (s, 0, 0)

end Sys2Proof.Machine
end

