-- ==== Sys2Proof/Machine/Release.lean ====
section
/-! DEFINITION. The release unit (07): handles, platform release, emergency reset, maintenance custody, test cycles as commands, and isolation. -/

namespace Sys2Proof.Machine

/-! Platform release (R135 to R139). -/

/-- Why no door could be taken: the mark of the RELEASE report (R136). -/
def State.releaseMark (s : State) : String :=
  if s.berth.state == .departing then "DEPARTING" else if s.berth.state.holdsMap then "-" else "NOMAP"

/-- The RELEASE report: activity, latches, doors taken by the event, mark (R136). That of ER carries the doors returned in their place
(R140, log 43). -/
def releaseReport (n : Nat) (s : State) : Report :=
  { kind := .release, obj := none,
    body := [levelF s.rel.active, setOfF ((if s.rel.esrLatch then ["ESR"] else []) ++ (if s.rel.trainLatch then ["TRAIN"] else [])),
             numF n, s.releaseMark] }

/-- The state a door takes when release takes it (R137). -/
def Door.takenState (c : Settings) (d : Door) : Door :=
  match d.state with
  | .closedLocked => (d.enterOpening c).countOpen
  | .closedUnlocked => (d.enterOpening c).countOpen
  | .opening => d.enterOpening c
  | .reopening => d.enterOpening c
  | .warning => d.enterOpening c
  | .closing => d.enterOpening c
  | .paused => d.enterOpening c
  | .held => d.enterOpening c
  | .opened => d.stopTimers
  | .unknown => d.stopTimers
  | .released => d.stopTimers
  | .fault => d.stopTimers

/-- A door taken: EMERGENCY custody with {PLATFORM}, return custody SEQUENCER (R137). -/
def Door.taken (c : Settings) (d : Door) : Door :=
  { d.takenState c with custody := .emergency, rHandle := false, rPlatform := true, retMaint := false }

/-- One map door considered by R137. Its DOOR report is queued whether or not anything it shows has changed. -/
def takeDoor (s : State) (i : DoorIx) : State :=
  if (s.door i).custody == .sequencer then
    let s := cancelPending "RELEASE" i s
    let d := (s.door i).taken s.settings
    offerIf ((s.door i).viewSame d) (doorReport i d) (changeDoor i d ["RELEASE"] s)
  else s

/-- The map doors that R137 takes at an event that concerns every map door. -/
def State.takenCount (s : State) : Nat := (s.berth.map.filter fun e => (s.door e.j).custody == .sequencer).length

/-- R137 over every map door, in ascending index. -/
def takeMapDoors (s : State) : State := s.berth.map.foldl (fun s e => takeDoor s e.j) s

/-- A release latch is set (R135, R136): release becomes active or has a second latch, and map doors are taken where the berth
state lets them be. A latch already set is left. -/
def setLatch (esr : Bool) (s : State) : State :=
  if (if esr then s.rel.esrLatch else s.rel.trainLatch) then s
  else
    let s := reeval (s.setRel (if esr then { s.rel with esrLatch := true } else { s.rel with trainLatch := true }))
    if s.berth.state.takesRelease then
      let n := s.takenCount
      let s := takeMapDoors s
      offer (releaseReport n s) s
    else offer (releaseReport 0 s) s

/-- The release rules at a map-formed announcement, and when DEPARTING becomes MOVED_OPEN (R137, R138). -/
def releaseTakes (s : State) : State :=
  if s.rel.active then
    let n := s.takenCount
    let s := takeMapDoors s
    let s := s.berth.map.foldl (fun s e => driveOpen s e.j) s
    if n == 0 then s else offer (releaseReport n s) s
  else s

/-- R139: a {PLATFORM} door that is OPENING goes to OPEN. -/
def releaseOne (s : State) (i : DoorIx) : State :=
  let d := s.door i
  if d.platformOnly && d.state == .opening then changeDoor i (d.goto .opened) [] s else s

/-- R139: the map has cleared while release is active. -/
def releaseMapCleared (s : State) : State :=
  if s.rel.active then
    let s := allDoors.foldl releaseOne s
    offer (releaseReport 0 s) s
  else s

/-- R142: every pending door judged in list order at the map-cleared announcement. -/
def judgePending (s : State) : State := s.rel.pendingMaint.foldl grantIf s

/-- The last row of R137's events: a map door that enters SEQUENCER custody by RT or MR. -/
def takeIfReleased (i : DoorIx) (s : State) : State :=
  if s.rel.active && s.berth.state.takesRelease && s.berth.isMapDoor i && (s.door i).custody == .sequencer then
    let s := takeDoor s i
    offer (releaseReport 1 s) s
  else s

/-- A door that RT or MR returns: taken at once where R137 takes it, and then its change of state is announced (R134, R148). -/
def returnDoor (i : DoorIx) (d : Door) (ev : List String) (s : State) : State :=
  let same := (s.door i).state == d.state && (s.door i).fault == d.fault
  let s := takeIfReleased i (putDoor i d ev s)
  if same then s else announceDoor i s

/-! The manual release handle (R132). -/

/-- The HANDLE report (R132). -/
def handleReport (i : DoorIx) (d : Door) : Report :=
  { kind := .handle, obj := some (i.val + 1),
    body := [d.custody.text] ++ (if d.custody == .isolated then ["ISOLATED"] else []) }

/-- The door after a handle operation: RELEASED in EMERGENCY custody with HANDLE (R132). -/
def Door.handled (d : Door) : Door :=
  { d.goto .released with
    custody := .emergency, rHandle := true,
    rPlatform := if d.custody == .emergency then d.rPlatform else false,
    retMaint := if d.custody == .emergency then d.retMaint else d.custody == .maint }

/-- R132: a handle operation at door i. -/
def handlePath (i : DoorIx) (s : State) : State :=
  if (s.door i).custody == .isolated then offer (handleReport i (s.door i)) s
  else
    let s := cancelPending "HANDLE" i s
    let e := (s.door i).endTest i .aborted
    let s := changeDoor i e.1.handled ["HANDLE"] (offers e.2 s)
    offer (handleReport i (s.door i)) s

/-! Restore and emergency reset (R134, R140). -/

/-- The state RT gives outside the two rows that drive or resolve under {PLATFORM}: a FAULT kept, else resolution, then DRIVE. -/
def Door.restoredState (d : Door) : Door :=
  if d.state == .fault then d
  else
    match d.last with
    | none => d.goto .unknown
    | some st => if st.code == 0 then d.goto (resolve st) else (d.goto (resolve st)).toFault .drive

/-- The last status shows CLOSED (R134). -/
def Door.lastClosed (d : Door) : Bool := match d.last with | some st => st.pos == .closed | none => false

/-- The door after a taken RT (R134). -/
def Door.restored (c : Settings) (isMap : Bool) (d : Door) : Door :=
  let d := { d with rHandle := false }
  if d.rPlatform then
    (if d.state == .fault then d
     else if isMap then (if d.lastClosed then (d.enterOpening c).countOpen else d.enterOpening c)
     else d.goto d.resolved)
  else if d.retMaint then { d.restoredState with custody := .maint, mOrder := .hold, testPhase := .none }
  else { d.restoredState with custody := .sequencer }

/-- RT j (R134). -/
def doRt (j : Int) (s : State) : Res :=
  onDoor j s fun i =>
    refuseIf (!((s.door i).custody == .emergency && (s.door i).rHandle)) .state
      (refuseIf (s.door i).live.handle .state
        (let s := returnDoor i ((s.door i).restored s.settings (s.berth.isMapDoor i)) ["RESTORE"] s
         .ok s ([ixF i, (s.door i).custody.text] ++ [(s.door i).state.text])))

/-- EO (R136): the train release latch. The reply counts the doors taken. -/
def doEo (s : State) : Res :=
  let n := if s.rel.trainLatch || !s.berth.state.takesRelease then 0 else s.takenCount
  .ok (setLatch false s) ([numF n] ++ (if s.berth.state.takesRelease then [] else ["NOMAP"]))

/-- A door after an emergency reset (R140). -/
def Door.reset140 (d : Door) : Door :=
  let d := { d with rPlatform := false }
  if d.rHandle then d
  else
    let d := { d with custody := .sequencer }
    if d.state == .unknown || (d.state == .fault && !d.softFault) then d else d.goto .opened

/-- One door of the fold of R140. -/
def resetOne (s : State) (i : DoorIx) : State :=
  let d := s.door i
  if d.rPlatform then changeDoor i d.reset140 ["ER"] s else s

/-- ER (R140). -/
def doEr (s : State) : Res :=
  refuseIf s.power.esr .state
    (let n := (allDoors.filter fun i => (s.door i).rPlatform && !(s.door i).rHandle).length
     let was := s.rel.active
     let s := reeval (s.setRel { s.rel with esrLatch := false, trainLatch := false, esrTimer := none })
     let s := allDoors.foldl resetOne s
     .ok (offerIf was (releaseReport n s) s) [numF n])

/-! Maintenance custody (R141 to R144). -/

/-- MQ j (R141). -/
def doMq (j : Int) (s : State) : Res :=
  onDoor j s fun i =>
    refuseIf ((s.door i).custody == .emergency) .emerg
      (refuseIf ((s.door i).custody == .maint || (s.door i).custody == .isolated) .state
        (if s.rel.pendingMaint.contains i then .ok s [ixF i, "PENDING", positionF s.rel.pendingMaint i]
         else if s.grantable i then .ok (putDoor i (s.door i).granted ["GRANT"] s) [ixF i, "GRANTED"]
         else
           let s := s.setRel { s.rel with pendingMaint := s.rel.pendingMaint ++ [i] }
           .ok (offerCustody [] s i) [ixF i, "PENDING", positionF s.rel.pendingMaint i]))

/-- MC j (R143). -/
def doMc (j : Int) (s : State) : Res :=
  onDoor j s fun i => refuseIf (!s.rel.pendingMaint.contains i) .state (.ok (cancelPending "MC" i s) [ixF i])

/-- MO j order (R144). -/
def doMo (j : Int) (order : Kw MaintOrder) (s : State) : Res :=
  onDoor j s fun i =>
    match order with
    | .unknown => .no .range
    | .is o =>
      let d := s.door i
      refuseIf (d.custody != .maint || d.testing || d.state == .unknown || d.state == .fault) .state
        (.ok (putDoor i { d with mOrder := o } ["MO"] s) [ixF i, maintOrderName o])

/-- The OPENING phase of a test begins at door i (R145). A test that a low supply ends at once has its CUSTODY report too, showing the
phase NONE (R131, R146). -/
def startTest (i : DoorIx) (s : State) : State :=
  let e := (s.door i).enterTestOpening i s.settings
  changeDoor i e.1 ["TC"] (offerIf (!e.1.testing) (custodyReport i e.1 s.rel.pendingMaint ["TC"]) (offers e.2 s))

/-- TC j (R145). -/
def doTc (j : Int) (s : State) : Res :=
  onDoor j s fun i =>
    refuseIf ((s.door i).custody != .maint || (s.door i).testing || (s.door i).state != .closedLocked) .state
      (.ok (startTest i s) [ixF i])

/-- MR j (R148). -/
def doMr (j : Int) (s : State) : Res :=
  onDoor j s fun i =>
    let d := s.door i
    refuseIf (d.custody != .maint || d.testing || d.state != .closedLocked) .state
      (.ok (returnDoor i { d with custody := .sequencer, mOrder := .hold, lockedSince := none } ["MR"] s) [ixF i])

/-! Isolation (R149, R150). -/

/-- Door i taken into ISOLATED custody (R149; R4's row for iso). -/
def isolate (i : DoorIx) (s : State) : State :=
  let s := cancelPending "IS" i s
  changeDoor i { (s.door i).stopTimers with custody := .isolated, mOrder := .hold } ["IS"] s

/-- Whether a FAULT is kept at the removal of isolation (R150). -/
def Door.hardFault (d : Door) : Bool :=
  d.state == .fault && (d.fault == some .comms || d.fault == some .drive || d.fault == some .supply)

/-- The door after isolation is removed (R150). -/
def Door.unisolated (d : Door) : Door :=
  { (if d.hardFault then d else d.goto d.resolved) with custody := .maint, mOrder := .hold, testPhase := .none }

/-- Door i taken out of ISOLATED custody (R150; R4's row for iso): a handle that stands operated is acted on at once. -/
def unisolate (i : DoorIx) (s : State) : State :=
  let s := changeDoor i (s.door i).unisolated ["IU"] s
  if (s.door i).live.handle then handlePath i s else s

/-- IS j [FORCE] (R149). -/
def doIs (j : Int) (force : Bool) (s : State) : Res :=
  onDoor j s fun i =>
    let d := s.door i
    refuseIf (d.custody == .emergency) .emerg
      (refuseIf (d.custody == .isolated || d.testing) .state
        (refuseIf (!(d.state == .closedLocked || (force && (d.state == .fault || d.state == .unknown)))) .state
          (let s := isolate i s
           .ok s [ixF i, (s.door i).state.text])))

/-- IU j (R150). -/
def doIu (j : Int) (s : State) : Res :=
  onDoor j s fun i =>
    refuseIf ((s.door i).custody != .isolated) .state
      (let s := unisolate i s
       .ok s [ixF i, (s.door i).custody.text, (s.door i).state.text])

/-! The ESR input (R135). -/

/-- The pins after ESR_INPUT_CHANGE. -/
def Power.releaseLevels (v : ReleaseInputs) (p : Power) : Power := { p with esr := v.esr, permit := v.permit }

/-- ESR_INPUT_CHANGE of a live part: the qualification timer follows a change of the ESR level (R135). The reset-permit level is held,
and its change is no event (R160). -/
def esrChange (v : ReleaseInputs) (s : State) : State :=
  { s with
    power := s.power.releaseLevels v
    rel :=
      if s.power.esr == v.esr then s.rel else { s.rel with esrTimer := if v.esr then some Config.esrMs else none } }

/-- The ESR qualification timer expires (R135). -/
def esrExpiry (s : State) : State :=
  match s.rel.esrTimer with
  | none => s
  | some _ => setLatch true (s.setRel { s.rel with esrTimer := none })

/-! Test timers (R145, R146). -/

/-- A phase timer of a test expires: the test ends with a result in FAULT (R146). -/
def testFails (ph : TestPhase) (r : TestResult) (f : FaultReason) (j : Nat) (s : State) : State :=
  onDoorTimer j s fun i =>
    if (s.door i).testPhase == ph && (s.door i).test.isSome then
      let e := (s.door i).endTest i r
      changeDoor i (e.1.toFault f) [] (offers e.2 s)
    else s

/-- The phase timer expires in OPENING (R146). -/
def testOpenExpiry (j : Nat) (s : State) : State := testFails .opening .openTimeout .openTimeout j s

/-- The phase timer expires in CLOSING (R146). -/
def testCloseExpiry (j : Nat) (s : State) : State := testFails .closing .closeTimeout .closeTimeout j s

/-- A test's lock timer is running. -/
def Door.testLockRuns (d : Door) : Bool := match d.test with | some t => t.lock.isSome | none => false

/-- The test lock timer expires (R146). -/
def testLockExpired (j : Nat) (s : State) : State :=
  onDoorTimer j s fun i => if (s.door i).testLockRuns then testFails .closing .lockFail .lockFail j s else s

/-- The dwell expires: phase CLOSING (R145). -/
def dwellExpired (j : Nat) (s : State) : State :=
  onDoorTimer j s fun i =>
    if (s.door i).testPhase == .dwell && (s.door i).test.isSome then
      let e := (s.door i).enterTestClosing i s.settings
      changeDoor i e.1 [] (offers e.2 s)
    else s

end Sys2Proof.Machine
end

