-- ==== Sys2Proof/Machine/Sequencer.lean ====
section
/-! DEFINITION. The door sequencer's records and timers: OP, CL, HD, RM, DR, DS and the expiries of the door timers (05; R73). -/

namespace Sys2Proof.Machine

/-- The AUTH report (R169). -/
def authReport (a : Auth) : Report :=
  { kind := .auth, obj := none,
    body := [a.key.text, setF a.keyFault, a.effective.text, setF a.fallback, setF a.hold] }

/-! Group commands. -/

/-- The map doors that OP g considers (R86). -/
def State.opDoors (s : State) (g : Nat) : List DoorIx := (s.berth.map.map MapEntry.j).filter fun i => (s.door i).inGroup g

/-- The configured doors that CL g considers (R90). -/
def State.clDoors (s : State) (g : Nat) : List DoorIx := allDoors.filter fun i => (s.door i).inGroup g

/-- OP g (R86, R87). -/
def doOp (g : Int) (s : State) : Res :=
  match within? 0 15 g with
  | none => .no .range
  | some n =>
    refuseIf (s.berth.state != .aligned) .state
      (refuseIf s.auth.hold .held
        (let r := groupCommand (fun s i => (s.door i).opEffect s.settings) (s.opDoors n) s
         .ok r.1 [numF n, numF r.2.1, numF r.2.2]))

/-- CL g (R90, R91). -/
def doCl (g : Int) (s : State) : Res :=
  match within? 0 15 g with
  | none => .no .range
  | some n =>
    refuseIf s.auth.hold .held
      (refuseIf ((s.clDoors n).any fun i => (s.door i).custody == .emergency && (s.door i).rPlatform) .emerg
        (let r := groupCommand (fun s i => (s.door i).clEffect s.settings (s.warningHeld i)) (s.clDoors n) s
         .ok r.1 [numF n, numF r.2.1, numF r.2.2]))

/-! Platform hold (R100, R102). -/

/-- A state that the platform hold freezes (R100). -/
def DoorState.freezes : DoorState → Bool
  | .opening => true | .reopening => true | .warning => true | .closing => true | .paused => true
  | .unknown => false | .closedLocked => false | .closedUnlocked => false | .opened => false | .held => false | .released => false
  | .fault => false

/-- The hold takes a door: its timers stand as they are (R100). -/
def Door.freeze (d : Door) : Door := { d with state := .held, heldFrom := some d.state }

/-- Whether HD takes the door into HELD. -/
def Door.freezable (d : Door) : Bool := d.custody == .sequencer && d.state.freezes

/-- The door returns from HELD (R102). -/
def Door.thaw (c : Settings) (held : Bool) (d : Door) : Door :=
  match d.heldFrom with
  | none => d
  | some st =>
    let d := { d with state := st, heldFrom := none }
    match st with
    | .warning => if held then { d with warn := some c.warn, warnHeld := true } else { d with warnHeld := false }
    | .opening => if d.live.supply then d.toFault .supply else d
    | .reopening => if d.live.supply then d.toFault .supply else d
    | .closing => if d.live.supply then d.toFault .supply else d
    | .unknown => d | .closedLocked => d | .closedUnlocked => d | .opened => d | .paused => d | .held => d | .released => d
    | .fault => d

def freezeOne (s : State) (i : DoorIx) : State :=
  if (s.door i).freezable then changeDoor i (s.door i).freeze [] s else s

def thawOne (s : State) (i : DoorIx) : State :=
  if (s.door i).state == .held then changeDoor i ((s.door i).thaw s.settings (s.warningHeld i)) [] s else s

/-- The hold flag with its AUTH report (R168), which goes before the DOOR reports of the doors it concerns (log 11). -/
def setHold (b : Bool) (s : State) : State :=
  let a := { s.auth with hold := b }
  offer (authReport a) (s.setAuth a)

/-- HD (R100). -/
def doHd (s : State) : Res :=
  if s.auth.hold then .ok s [numF 0]
  else
    let n := (allDoors.filter fun i => (s.door i).freezable).length
    .ok (allDoors.foldl freezeOne (setHold true s)) [numF n]

/-- RM (R102). -/
def doRm (s : State) : Res :=
  refuseIf (!s.auth.hold) .state
    (let n := (allDoors.filter fun i => (s.door i).state == .held).length
     .ok (allDoors.foldl thawOne (setHold false s)) [numF n])

/-! Door unit reset and door status. -/

/-- The door after a door unit reset (R107). -/
def Door.unitReset (d : Door) : Door :=
  { d.goto .unknown with
    latTrain := Conds.clear, latStation := Conds.clear, latPanel := Conds.clear, misses := 0, ovf := 0, last := none,
    retry := 0, obstructed := false }

/-- DR j (R107). A DOOR report is queued whether or not anything it shows has changed. -/
def doDr (j : Int) (s : State) : Res :=
  onDoor j s fun i =>
    let d := s.door i
    refuseIf (d.custody == .sequencer || d.custody == .emergency || d.testing) .state
      (let s := changeDoor i d.unitReset [] s
       .ok (offer (doorReport i (s.door i)) s) [ixF i])

/-- The DS content: the six items of R73, then the obstructed mark while it is set (R96, log 13). -/
def Door.dsF (l : Link) (d : Door) : List String :=
  d.stateF ++ [d.custody.text] ++ statusF d.last ++ [numF d.misses, d.live.text, (d.latched l).text] ++
  (if d.obstructed then ["OBSTRUCTED"] else [])

/-- One link's latched set cleared (R73). -/
def Door.clearLatched (l : Link) (d : Door) : Door :=
  match l with
  | .train => { d with latTrain := Conds.clear }
  | .station => { d with latStation := Conds.clear }
  | .panel => { d with latPanel := Conds.clear }

/-- DS j (R73). -/
def doDs (l : Link) (j : Int) (s : State) : Res :=
  onDoor j s fun i => .ok (s.setDoor i ((s.door i).clearLatched l)) ((s.door i).dsF l)

/-! Door timers (R84). -/

/-- The warning timer expires: CLOSING (R92). -/
def warningExpired (j : Nat) (s : State) : State :=
  onDoorTimer j s fun i =>
    let d := s.door i
    if d.state == .warning && d.warn.isSome && !d.warnHeld then changeDoor i (d.enterClosing s.settings) [] s else s

/-- The max-hold timer expires: CLOSING (R92). -/
def maxHoldExpired (j : Nat) (s : State) : State :=
  onDoorTimer j s fun i =>
    let d := s.door i
    if d.state == .warning && d.maxHold.isSome then changeDoor i (d.enterClosing s.settings) [] s else s

/-- The pause timer expires: WARNING (R95). -/
def pauseExpired (j : Nat) (s : State) : State :=
  onDoorTimer j s fun i =>
    let d := s.door i
    if d.state == .paused && d.pause.isSome then changeDoor i (d.enterWarning s.settings (s.warningHeld i)) [] s else s

/-- The opening timeout expires: FAULT, OPEN_TIMEOUT (R88). -/
def openingExpired (j : Nat) (s : State) : State :=
  onDoorTimer j s fun i =>
    let d := s.door i
    if (d.state == .opening || d.state == .reopening) && d.timeout.isSome then changeDoor i (d.toFault .openTimeout) [] s else s

/-- The closing timeout expires: FAULT, CLOSE_TIMEOUT (R93). -/
def closingExpired (j : Nat) (s : State) : State :=
  onDoorTimer j s fun i =>
    let d := s.door i
    if d.state == .closing && d.timeout.isSome then changeDoor i (d.toFault .closeTimeout) [] s else s

/-- The lock timer expires: FAULT, LOCK_FAIL (R93). -/
def lockExpired (j : Nat) (s : State) : State :=
  onDoorTimer j s fun i =>
    let d := s.door i
    if d.state == .closing && d.lock.isSome then changeDoor i (d.toFault .lockFail) [] s else s

end Sys2Proof.Machine
end

