-- ==== Sys2Proof/Machine/Sensing.lean ====
section
/-! DEFINITION. The sensing scanner and the zone evaluator (06). -/

namespace Sys2Proof.Machine

/-! Reports and contents. -/

/-- The HEAD report (R110). -/
def headReport (h : HeadIx) (x : Head) : Report :=
  { kind := .head, obj := some (h.val + 1),
    body := [x.state.text, numF x.f, setF x.withdrawn, setF x.skipped, numF x.misses,
             match x.status with | some st => st.text | none => "-"] }

/-- The associated doors of a zone as fields. -/
def ZoneCfg.doorsF (c : ZoneCfg) : List String := [ixF c.d1, match c.d2 with | some d => ixF d | none => "-"]

/-- The ZONE report (R123). -/
def zoneReport (z : ZoneIx) (x : Zone) (gap : Option Nat) : Report :=
  { kind := .zone, obj := some (z.val + 1),
    body := [x.state.text, ixF x.cfg.head, zoneKindName x.cfg.kind] ++ x.cfg.doorsF ++ [numF (x.cfg.effCount gap), numF (x.cfg.effThr gap)] }

/-- The ZONE report of a removal (R119; its one word is log 13). -/
def zoneGoneReport (z : ZoneIx) : Report := { kind := .zone, obj := some (z.val + 1), body := ["REMOVED"] }

/-- The HS content (R128). -/
def Head.hsF (x : Head) : List String :=
  [x.state.text, numF x.f, setF x.withdrawn, setF x.skipped, numF x.misses,
   (match x.status with | some st => st.text | none => "-"), optF x.age, if x.stale then "STALE" else "FRESH",
   match x.cells with | some c => cellsF c | none => "-"]

/-- The ten fields of a zone record (R118). -/
def ZoneCfg.fieldsF (c : ZoneCfg) : List String :=
  [ixF c.head, numF c.first, numF c.count, zoneKindName c.kind] ++ c.doorsF ++ [numF c.thr, numF c.on, numF c.off, yesNoF c.en]

/-- The ZS content (R128). -/
def Zone.zsF (x : Zone) (gap : Option Nat) : List String :=
  [x.state.text] ++ x.cfg.fieldsF ++
  [numF (x.cfg.effCount gap), numF (x.cfg.effThr gap), numF x.hits, numF x.clears, optF x.lastCount]

/-! Zone state changes (R123). -/

/-- The doors a zone names. -/
def ZoneCfg.doors (c : ZoneCfg) : List DoorIx := c.d1 :: (match c.d2 with | some d => [d] | none => [])

/-- What the door sequencer does at a zone state change: the warning hold for DOOR_FRONT zones (R92), egress reopen for a GAP zone
that becomes OCCUPIED (R104). -/
def zoneToSequencer (c : ZoneCfg) (new : ZoneState) (s : State) : State :=
  match c.kind with
  | .doorFront => c.doors.foldl warnCheck s
  | .gap => if new == .occupied then c.doors.foldl egressReopen s else s

/-- Zone z takes a new context: a change of state is reported and announced (R123); a change of runs alone is not. -/
def putZone (z : ZoneIx) (x : Zone) (s : State) : State :=
  let was := match s.zone z with | some y => some y.state | none => none
  let s := s.setZone z (some x)
  if was == some x.state then s
  else zoneToSequencer x.cfg x.state (reeval (offer (zoneReport z x s.gapDepth) s))

/-- One zone of the fold that takes every zone's state afresh (R120). -/
def refreshZone (s : State) (z : ZoneIx) : State :=
  match s.zone z with
  | none => s
  | some x => putZone z (x.derive (s.head x.cfg.head)) s

/-- Every zone's state taken afresh, in ascending index (R120, R123). -/
def refreshZones (s : State) : State := allZones.foldl refreshZone s

/-! Heads (R109, R110). -/

/-- A head that has stopped being visited loses its miss counter, last status, cells and frame age (R109). -/
def Head.dropFrames (x : Head) : Head := { x with misses := 0, status := none, cells := none, age := none, stale := false }

/-- The slot in progress to a head that stops being visited takes no reply and no miss (R108). -/
def Slot.forget (h : HeadIx) (x : Slot) : Slot := if x.head == h then { x with live := false } else x

/-- The rotation position when head h stops being visited: its own visit, if slots have been given in it, is over (R114). -/
def Scan.leave (h : HeadIx) (sc : Scan) : Scan :=
  { sc with slot := sc.slot.map (Slot.forget h), ended := sc.ended || (sc.pos == h && sc.given != 0) }

/-- No head is visited any longer: the next slot goes to the lowest-indexed head that becomes visited (R114). -/
def Scan.restart (sc : Scan) : Scan := { sc with pos := 0, given := 0, ended := false }

/-- Some head is visited. -/
def State.anyVisited (s : State) : Bool := allHeads.any fun h => (s.head h).visited

/-- Head h takes a new context: a head that stops being visited drops its frames, the scanner takes note, and a change of state is
reported (R109, R110, R114). -/
def putHead (h : HeadIx) (x : Head) (s : State) : State :=
  let old := s.head h
  let stops := old.visited && !x.visited
  let x := if x.visited then x else x.dropFrames
  let s := s.setHead h x
  let s := if stops then s.setScan (s.sense.scan.leave h) else s
  let s := if s.anyVisited then s else s.setScan s.sense.scan.restart
  offerIf (old.state != x.state) (headReport h x) s

/-! The rotation (R108, R114). -/

/-- The head of the next slot and the slots then given to it: the present head while its visit lasts, else the next visited head in
ascending index, else the lowest. That the f_h standing at the slot's end alone is judged is the model's choice (log 46). -/
def State.nextSlot (s : State) : Option (HeadIx × Nat) :=
  let sc := s.sense.scan
  let here := s.head sc.pos
  if here.visited && !sc.ended && sc.given < here.f then some (sc.pos, sc.given + 1)
  else
    let vs := allHeads.filter fun h => (s.head h).visited
    match vs.find? (fun h => if sc.given == 0 && !sc.ended then decide (sc.pos ≤ h) else decide (sc.pos < h)) with
    | some h => some (h, 1)
    | none => vs.head?.map fun h => (h, 1)

/-- The reply part of a slot is over: a slot to a head still visited ends in a miss (R108, R112). -/
def takeMiss (s : State) : State :=
  match s.sense.scan.slot with
  | none => s
  | some sl =>
    if sl.reply == .done then s
    else
      let s := s.setScan { s.sense.scan with slot := some { sl with reply := .done } }
      if sl.live then
        let x := s.head sl.head
        refreshZones (putHead sl.head { x with misses := satInc Config.missLimit x.misses } s)
      else s

/-- A frame slot begins (R108): the MAINT request of a waiting pass-through first (R126), else the FRAME request of the head whose
turn it is; with no head visited the scanner waits (R114). -/
def beginSlot (s : State) : State :=
  match s.sense.scan.pt with
  | some pt =>
    match pt.wait with
    | some _ => s
    | none => s.setScan { s.sense.scan with slot := none, pt := some { pt with wait := some Config.passThroughMs } }
  | none =>
    match s.nextSlot with
    | none => s.setScan { s.sense.scan with slot := none }
    | some (h, n) =>
      s.setScan { s.sense.scan with
        pos := h, given := n, ended := false,
        slot := some { head := h, frame := frameRequest h, left := Config.slotMs, reply := .outstanding, live := true } }

/-- FRAME_SLOT: not in STARTING (R108). A reply still outstanding in the slot that ends has been missed. -/
def frameSlotTaken (s : State) : State := if s.start.phase == .starting then s else beginSlot (takeMiss s)

/-! Zone evaluation (R121, R122). -/

/-- Blocked cells among the first n cells from cell `first`. -/
def countBlocked (c : BitVec 64) (first : Nat) : Nat → Nat
  | 0 => 0
  | n + 1 => countBlocked c first n + (if c.getLsbD (first + n) then 1 else 0)

/-- The runs after a frame (R122). -/
def Zone.runs (blocked thr : Nat) (x : Zone) : Zone :=
  if thr ≤ blocked then { x with hits := satInc x.cfg.on x.hits, clears := 0, lastCount := some blocked }
  else { x with clears := satInc x.cfg.off x.clears, hits := 0, lastCount := some blocked }

/-- The state the runs decide (R122). -/
def Zone.decide (x : Zone) : Zone :=
  if x.hits == x.cfg.on then { x with state := .occupied }
  else if x.clears == x.cfg.off then { x with state := .clear }
  else x

/-- A zone evaluated on a frame's cells; DISABLED and NOT_SERVED zones are not (R122). -/
def Zone.evaluate (c : BitVec 64) (gap : Option Nat) (x : Zone) : Zone :=
  if x.state == .disabled || x.state == .notServed then x
  else ((x.runs (countBlocked c x.cfg.first (x.cfg.effCount gap)) (x.cfg.effThr gap)).decide)

/-- One zone of the fold over a head's zones (R111). -/
def evalZone (h : HeadIx) (c : BitVec 64) (s : State) (z : ZoneIx) : State :=
  match s.zone z with
  | none => s
  | some x => if x.cfg.head == h then putZone z (x.evaluate c s.gapDepth) s else s

/-- A head after a good reply (R111, R113). -/
def Head.replied (st : HeadStatus) (c : BitVec 64) (x : Head) : Head :=
  match st with
  | .fault => { x with misses := 0, status := some st }
  | .ok => { x with misses := 0, status := some st, cells := some c, age := some 0, stale := false }
  | .dirty => { x with misses := 0, status := some st, cells := some c, age := some 0, stale := false }

/-- A good reply at head h (R111). -/
def headReplied (h : HeadIx) (st : HeadStatus) (c : BitVec 64) (s : State) : State :=
  let s := refreshZones (putHead h ((s.head h).replied st c) s)
  if st == .fault then s else allZones.foldl (evalZone h c) s

/-- HEAD_GOOD_REPLY: the bytes received on the sensor bus while a slot's reply is outstanding. Fewer than 11 bytes are an incomplete
reply; the first complete reply is the one taken, and one that is not good spoils the slot (R108, R191). -/
def headReply (bs : List Byte) (s : State) : State :=
  match s.sense.scan.slot with
  | none => s
  | some sl =>
    if sl.reply != .outstanding || bs.length < 11 then s
    else
      match judgeFrameReply sl.head (bs.take 11) with
      | none => s.setScan { s.sense.scan with slot := some { sl with reply := .spoiled } }
      | some r =>
        let s := s.setScan { s.sense.scan with slot := some { sl with reply := .done } }
        if sl.live then headReplied sl.head r.1 r.2 s else s

/-- FRAME_AGE_EXPIRY: the head is stale (R113). -/
def frameAgeExpired (h : Nat) (s : State) : State :=
  match ix? 12 h with
  | none => s
  | some h =>
    let x := s.head h
    if x.age.isSome && !x.stale then refreshZones (putHead h { x with stale := true } s) else s

/-! The map announcements (R116, R117, R121). -/

/-- The skipped mark of head h under a map (R116), or with none (R117). -/
def focusOne (map : Bool) (s : State) (h : HeadIx) : State :=
  putHead h { s.head h with skipped := map && !s.servesMap h } s

/-- Runs cleared where the effective window changes (R121). -/
def Zone.rewindow (old new : Option Nat) (x : Zone) : Zone :=
  if x.cfg.effCount old == x.cfg.effCount new && x.cfg.effThr old == x.cfg.effThr new then x else { x with hits := 0, clears := 0 }

def rewindowOne (old : Option Nat) (s : State) (z : ZoneIx) : State :=
  match s.zone z with
  | none => s
  | some x => s.setZone z (some (x.rewindow old s.gapDepth))

/-- The scanner and the zone evaluator at a map-formed or map-cleared announcement. `old` is the gap depth in force before it. -/
def mapToSensing (map : Bool) (old : Option Nat) (s : State) : State :=
  refreshZones (allZones.foldl (rewindowOne old) (allHeads.foldl (focusOne map) s))

/-! Records of the sensing blocks. -/

/-- The checks of a record that names a head. -/
def onHead (h : Int) (k : HeadIx → Res) : Res :=
  match ix? 12 h with
  | none => .no .range
  | some h => k h

/-- The turn, in slots, with head h at f (R115). -/
def State.turnWith (s : State) (h : HeadIx) (f : Nat) : Nat :=
  allHeads.foldl (fun acc k => acc + (if k == h then f else (s.head k).f)) 0

/-- RO h f (R115). -/
def doRo (h f : Int) (s : State) : Res :=
  onHead h fun h =>
    match within? 0 7 f with
    | none => .no .range
    | some f =>
      refuseIf (Config.turnSlots < s.turnWith h f) .range
        (.ok (refreshZones (putHead h { s.head h with f := f } s)) [ixF h, numF f, numF (Config.slotMs * s.turnWith h f)])

/-- HW h (R124). -/
def doHw (h : Int) (s : State) : Res :=
  onHead h fun h =>
    refuseIf (s.berth.state.holdsMap && s.servesMap h) .busy
      (.ok (refreshZones (putHead h { s.head h with withdrawn := true } s)) [ixF h])

/-- HJ h (R125). The skipped mark is that of the map as it stands. -/
def doHj (h : Int) (s : State) : Res :=
  onHead h fun h =>
    refuseIf (!(s.head h).withdrawn) .state
      (let x := { s.head h with withdrawn := false, skipped := s.berth.state.holdsMap && !s.servesMap h }
       let s := refreshZones (putHead h x s)
       .ok s [ixF h, (s.head h).state.text])

/-- PT h b1 b2 ... (R126): with no slot in progress the MAINT request is sent at once. The reply comes later. -/
def doPt (h : Int) (bytes : List Byte) (s : State) : Res :=
  onHead h fun h =>
    refuseIf (!(s.head h).withdrawn) .state
      (refuseIf (bytes.length < 1 || 16 < bytes.length) .range
        (let wait := match s.sense.scan.slot with | none => some Config.passThroughMs | some _ => none
         .wait (s.setScan { s.sense.scan with pt := some { head := h, frame := maintRequest h bytes, wait := wait } })))

/-- HS h (R128). -/
def doHs (h : Int) (s : State) : Res := onHead h fun h => .ok s ((s.head h).hsF)

/-- ZS z (R128). -/
def doZs (z : Int) (s : State) : Res :=
  match ix? 48 z with
  | none => .no .range
  | some z =>
    match s.zone z with
    | none => .no .notFound
    | some x => .ok s (x.zsF s.gapDepth)

/-- A mandatory field within a range. -/
def need? (lo hi : Nat) (x : Option Int) : Option Nat := x.bind (within? lo hi)

/-- A field with a default: the value given or the default, none where it is out of range. -/
def opt? (dflt lo hi : Nat) : Option Int → Option Nat
  | none => some dflt
  | some x => within? lo hi x

/-- The record of ZC's fields, each within its values (R118). -/
def zoneRecord (head first count : Option Int) (kind : Option (Kw ZoneKind)) (d1 d2 thr on off : Option Int) (en : Option (Kw Bool)) :
    Option ZoneCfg := do
  let head ← head.bind (ix? 12)
  let first ← need? 0 63 first
  let count ← need? 1 64 count
  if 64 < first + count then none
  else
    let kind ← match kind with | some (.is k) => some k | _ => none
    let d1 ← d1.bind (ix? 32)
    let d2 ← match d2 with
      | none => some none
      | some x => (ix? 32 x).bind fun d => if d == d1 then none else some (some d)
    let thr ← need? 1 count thr
    let on ← opt? 2 1 8 on
    let off ← opt? 4 1 16 off
    let en ← match en with | none => some true | some (.is b) => some b | some .unknown => none
    pure { head := head, first := first, count := count, kind := kind, d1 := d1, d2 := d2, thr := thr, on := on, off := off, en := en }

/-- The old record of a replaced or removed zone leaves its readers: a zone removed is to them as DISABLED (R119). -/
def dropZone (z : ZoneIx) (s : State) : State :=
  match s.zone z with
  | none => s
  | some x => zoneToSequencer x.cfg .disabled (reeval (s.setZone z none))

/-- ZC z ... (R118, R119). -/
def doZc (z : Int) (head first count : Option Int) (kind : Option (Kw ZoneKind)) (d1 d2 thr on off : Option Int)
    (en : Option (Kw Bool)) (s : State) : Res :=
  match ix? 48 z with
  | none => .no .range
  | some z =>
    refuseIf (s.berth.state != .empty) .busy
      (match zoneRecord head first count kind d1 d2 thr on off en with
       | none => .no .range
       | some c =>
         refuseIf (!(c.doors.all fun i => (s.door i).configured)) .notFound
           (let s := dropZone z s
            let x : Zone := { cfg := c, state := .unknown, hits := 0, clears := 0, lastCount := none }
            .ok (putZone z (x.derive (s.head c.head)) s) (ixF z :: c.fieldsF)))

/-- ZX z (R119). -/
def doZx (z : Int) (s : State) : Res :=
  match ix? 48 z with
  | none => .no .range
  | some z =>
    refuseIf (s.berth.state != .empty) .busy
      (refuseIf (s.zone z).isNone .notFound (.ok (offer (zoneGoneReport z) (dropZone z s)) [ixF z]))

end Sys2Proof.Machine
end

