-- ==== Sys2Proof/Machine/Align.lean ====
section
/-! DEFINITION. The alignment unit (03): head estimate, stop error, door map, uncovered list and outcome, as functions of what a run reads (R42). -/

namespace Sys2Proof.Machine

/-- The difference of two distances. -/
def dist (a b : Nat) : Nat := max a b - min a b

/-- Stage 1 gives a head position with its contributors and confidence, or a fault reason (R44, R45). -/
inductive HeadEstimate where
  | fault (why : AlignFault)
  | at_ (h : Nat) (fromA fromB : Bool) (conf : Confidence)
  deriving DecidableEq, Repr

/-- Stage 1 (R43 to R45). -/
def headEstimate (f : ProfileFields) (r a b : Option Nat) : HeadEstimate :=
  match a, b with
  | some a, some b =>
    if dist a b ≤ f.dagree then .at_ ((a + b) / 2) true true .dual
    else match r with
      | none => .fault .disagree
      | some r => if dist a r ≤ dist b r then .at_ a true false .arbitrated else .at_ b false true .arbitrated
  | some a, none => .at_ a true false .single
  | none, some b => .at_ b false true .single
  | none, none =>
    match r with
    | some r => if f.rep then .at_ r false false .reported else .fault .noPosition
    | none => .fault .noPosition

/-- Stage 2 (R47): the stop error. -/
def stopError (f : ProfileFields) (h : Nat) : Int := (h : Int) - f.stop

/-- Stage 2 (R47): the class of the stop. -/
def stopClass (f : ProfileFields) (e : Int) : StopClass :=
  if e.natAbs ≤ f.tstop then .normal else if e.natAbs ≤ f.tpartial then .wide else .outside

/-- Stage 3 (R49): the length that a platform door and a train door share with the head at h. -/
def overlap (d : DoorEntry) (h : Nat) (t : TrainDoor) : Nat := min d.far (h + t.tf) - max d.near (h + t.tn)

/-- The eligible train doors, numbered from 1 (R48). -/
def eligibleTrain (cuts : List Nat) (doors : List TrainDoor) : List (Nat × TrainDoor) :=
  ((doors.zipIdx 1).map fun x => (x.2, x.1)).filter fun x => !cuts.contains x.1

/-- A platform door's match: the largest overlap, the lowest index among equals (R50). -/
def bestMatch (d : DoorEntry) (h : Nat) (ks : List (Nat × TrainDoor)) : Option (Nat × Nat) :=
  ks.foldl (fun acc k =>
    let ov := overlap d h k.2
    match acc with
    | none => some (k.1, ov)
    | some (_, best) => if best < ov then some (k.1, ov) else acc) none

/-- The map entry of one platform door, if it has one (R48, R50). -/
def mapEntry (f : ProfileFields) (h : Nat) (ks : List (Nat × TrainDoor)) (i : DoorIx) (d : Door) : Option MapEntry :=
  match d.entry with
  | none => none
  | some e =>
    if d.custody == .isolated then none
    else match bestMatch e h ks with
      | none => none
      | some (k, ov) => if f.omin ≤ ov then some { j := i, k := k, ov := ov } else none

/-- Stage 3 (R50, R51): the door map, ascending by platform door. -/
def State.formMap (s : State) (f : ProfileFields) (h : Nat) (ks : List (Nat × TrainDoor)) : List MapEntry :=
  allDoors.filterMap fun i => mapEntry f h ks i (s.door i)

/-- An available platform door (R53). -/
def Door.available (d : Door) : Bool := d.custody == .sequencer && d.state != .fault && d.state != .unknown

/-- Stage 4 (R53): the uncovered list. -/
def State.formUncovered (s : State) (ks : List (Nat × TrainDoor)) (m : List MapEntry) : List Nat :=
  (ks.filter fun k => !m.any fun e => e.k == k.1 && (s.door e.j).available).map Prod.fst

/-- The berth record with every alignment field absent or empty, in a given state (R39, R55). -/
def Berth.unaligned (st : BerthState) (b : Berth) : Berth :=
  { b with state := st, est := none, partials := ⟨false, false, false⟩, fault := none, oob := none, accepted := false, map := [],
           uncovered := [] }

/-- Stages 3 to 5 with the head estimate and class at hand (R48 to R55). -/
def State.alignAt (s : State) (b : Berth) (f : ProfileFields) (doors : List TrainDoor) (est : Estimate) : Berth :=
  match est.cls with
  | .outside => { b.unaligned .outOfBerth with est := some est, oob := some .tolerance }
  | .normal => go
  | .wide => go
where
  /-- R50 to R54. -/
  go : Berth :=
    let ks := eligibleTrain b.cuts doors
    let m := s.formMap f est.h ks
    if m.isEmpty then { b.unaligned .alignFault with est := some est, fault := some .noMatch }
    else
      let u := s.formUncovered ks m
      let ps : Partials := ⟨est.cls == .wide, est.conf != .dual, !u.isEmpty⟩
      { b.unaligned (if ps.wide || ps.confidence || ps.uncovered then .partialHeld else .aligned) with
        est := some est, partials := ps, map := m, uncovered := u }

/-- A run of alignment (R41 to R55) on berth record b, with the sensor values present. A record that names no profile with fields is
left as it is: R8 keeps the profile it names VALID. -/
def State.align (s : State) (b : Berth) (va vb : Option Nat) : Berth :=
  match b.profile with
  | none => b
  | some p =>
    match (s.profile p).fields with
    | none => b
    | some f =>
      match headEstimate f b.r va vb with
      | .fault why => { b.unaligned .alignFault with fault := some why }
      | .at_ h fa fb conf =>
        let e := stopError f h
        s.alignAt b f (s.profile p).doors { h := h, fromA := fa, fromB := fb, conf := conf, e := e, cls := stopClass f e }

end Sys2Proof.Machine
end

