-- ==== Sys2Proof/Machine/Authority.lean ====
section
/-! DEFINITION. The authority unit (09): the key switch, the fallback latch, train link supervision and its reports. -/

namespace Sys2Proof.Machine

/-- The SUPERVISION report (R164, R165). -/
def supervisionReport (st : Stage) : Report := { kind := .supervision, obj := none, body := [st.text] }

/-- The KEYFAULT report, with the three levels, at a reading that sets the fault and at one that clears it (R160). -/
def keyFaultReport (set auto loc maint : Bool) : Report :=
  { kind := .keyFault, obj := none, body := [setF set, levelF auto, levelF loc, levelF maint] }

/-- Key position and key fault from the three levels (R160). -/
def readKey (auto loc maint : Bool) : Mode × Bool :=
  if auto && !loc && !maint then (.auto, false)
  else if !auto && loc && !maint then (.loc, false)
  else if !auto && !loc && maint then (.maint, false)
  else (.loc, true)

/-- R163: supervision armed or disarmed on the authority and berth state as they stand. -/
def Auth.judge (armed : Bool) (supv : Nat) (a : Auth) : Auth :=
  if armed && a.supv.isNone then { a with stage := .normal, supv := some supv }
  else if !armed && a.supv.isSome then { a with stage := if a.stage == .lost && a.fallback then .lost else .normal, supv := none }
  else a

/-- R163 at a change of authority or berth state. -/
def judgeSupervision (s : State) : State := s.setAuth (s.auth.judge s.supvArmed s.settings.supv)

/-- R164: the effect of a well-formed train-link record on the stage and timer. -/
def Auth.spoken (supv : Nat) (a : Auth) : Auth :=
  match a.stage with
  | .normal => if a.supv.isSome then { a with supv := some supv } else a
  | .late => { a with stage := .normal, supv := some supv }
  | .lost => { a with stage := .normal }

/-- R164: a well-formed record on the train link. -/
def superviseRecord (s : State) : State :=
  offerIf (s.auth.stage != .normal) (supervisionReport .normal) (s.setAuth (s.auth.spoken s.settings.supv))

/-- SUPERVISION_EXPIRY (R165). -/
def supervisionExpired (s : State) : State :=
  match s.auth.supv, s.auth.stage with
  | none, _ => s
  | some _, .normal => offer (supervisionReport .late) (s.setAuth { s.auth with stage := .late, supv := some s.settings.supv })
  | some _, .late =>
    let a := { s.auth with stage := .lost, fallback := true, supv := none }
    offer (authReport a) (offer (supervisionReport .lost) (s.setAuth a))
  | some _, .lost => s

/-- A reading of the key (R160, R162, R163). -/
def Auth.keyed (k : Mode × Bool) (a : Auth) : Auth :=
  let gone := a.fallback && k.1 != .auto
  { a with
    key := k.1, keyFault := k.2, fallback := a.fallback && k.1 == .auto,
    stage := if gone && a.stage == .lost then .normal else a.stage }

/-- A new reading of the three levels as an event: the key fault reported when it changes (log 17), the latch cleared away from AUTO,
the change of effective authority announced, supervision judged (R160 to R163, R143); the order of the reports is log 11. -/
def keyChanged (auto loc maint : Bool) (s : State) : State :=
  let old := s.auth
  let new := old.keyed (readKey auto loc maint)
  let s := { s with power := { s.power with auto := auto, loc := loc, maint := maint }, auth := new }
  let s := offerIf (old.keyFault != new.keyFault) (keyFaultReport new.keyFault auto loc maint) s
  let s := offerIf (old.stage != new.stage) (supervisionReport new.stage) s
  let s := offerIf (old.effective != new.effective || old.fallback != new.fallback) (authReport new) s
  let s := if old.effective != .auto && new.effective == .auto then cancelAll "AUTH" s else s
  judgeSupervision s

/-- The AS content (R169). -/
def State.asF (s : State) : List String :=
  [levelF s.power.auto, levelF s.power.loc, levelF s.power.maint, s.auth.key.text, setF s.auth.keyFault, s.auth.effective.text,
   setF s.auth.fallback, if s.auth.supv.isSome then "ARMED" else "DISARMED", s.auth.stage.text, optF s.auth.supv, setF s.auth.hold,
   levelF s.power.permit]

/-- AS (R169). -/
def doAs (s : State) : Res := .ok s s.asF

/-- KA (R164). -/
def doKa (s : State) : Res := .ok s [s.auth.effective.text, s.auth.stage.text]

end Sys2Proof.Machine
end

