-- ==== Sys2Proof/Machine/Berth.lean ====
section
/-! DEFINITION. The berth tracker (02): ranging sensors, marks, the berth record's transitions and their announcements, and the train-link records. -/

namespace Sys2Proof.Machine

/-! Announcement of a change of the berth record (R40, R58). -/

/-- The MOVED report: the map doors that are not CLOSED_LOCKED (R35). -/
def movedReport (s : State) : Report :=
  { kind := .moved, obj := none,
    body := [setOfF ((s.berth.map.filter fun e => (s.door e.j).state != .closedLocked).map fun e => ixF e.j)] }

/-- What the sensing blocks and the release unit do when the berth state goes from `old` to `new` (R116, R117, R121, R137, R139, R142). -/
def berthToReaders (old new : BerthState) (gap : Option Nat) (s : State) : State :=
  if new.holdsMap && !old.holdsMap then releaseTakes (mapToSensing true gap s)
  else if old.holdsMap && !new.holdsMap then judgePending (releaseMapCleared (mapToSensing false gap s))
  else if old == .departing && new == .movedOpen then releaseTakes s
  else s

/-- The tracker takes new contents: a changed berth record is reported (R40), and a changed berth state is announced to its readers
in the order of log 11. -/
def changeTrk (t : Tracker) (s : State) : State :=
  let old := s.berth
  let gap := s.gapDepth
  let s := s.setTrk t
  let s := offerIf (decide (old ≠ t.berth)) (berthReport t.berth) s
  let s := offerIf (t.berth.state == .movedOpen && old.state != .movedOpen) (movedReport s) s
  if old.state == t.berth.state then s
  else
    let s := s.setPorts (if old.state.holdsMap != t.berth.state.holdsMap then s.ports.map Port.mapChanged else s.ports)
    berthToReaders old.state t.berth.state gap (reeval (judgeSupervision s))

/-! Sensors (R18 to R20). -/

/-- A sensor after a sample (R18, R20). -/
def Sensor.sampled (band : Nat) (x : Sample) (v : Sensor) : Sensor :=
  let v : Sensor :=
    match x with
    | .ok d => { v with state := .ok, last := some d, window := (v.window.drop (v.window.length + 1 - Config.windowSize)) ++ [d] }
    | .noTarget => { v with state := .noTarget, last := none, window := [] }
    | .fault => { v with state := .fault, last := none, window := [] }
  let v := { v with silence := some Config.silenceMs }
  { v with settled := judgeSettled band v }

/-- A sensor whose silence timer has expired (R19). -/
def Sensor.silenced (v : Sensor) : Sensor := { v with state := .silent, last := none, window := [], settled := false, silence := none }

/-- Both reference values cleared (R34, R39). -/
def Tracker.clearRefs (t : Tracker) : Tracker :=
  { t with sensorA := { t.sensorA with ref := none }, sensorB := { t.sensorB with ref := none } }

/-- Both standstill windows emptied (R39). -/
def Tracker.emptyWindows (t : Tracker) : Tracker :=
  { t with sensorA := { t.sensorA with window := [], settled := false }, sensorB := { t.sensorB with window := [], settled := false } }

/-- Reference values recorded for the usable sensors (R31, R34). -/
def Tracker.recordRefs (t : Tracker) : Tracker :=
  { t with
    sensorA := { t.sensorA with ref := if t.sensorA.usable then some t.sensorA.settledValue else t.sensorA.ref }
    sensorB := { t.sensorB with ref := if t.sensorB.usable then some t.sensorB.settledValue else t.sensorB.ref } }

/-- The target-loss timer started where it is not running (R33). -/
def Tracker.startLoss (t : Tracker) : Tracker :=
  { t with loss := some (match t.loss with | some n => n | none => Config.targetLossMs) }

/-! Transitions of the berth (R26). -/

/-- Entry to EMPTY (R39). -/
def toEmpty (s : State) : State := changeTrk { s.trk.clearRefs with loss := none, berth := Berth.reset } s

/-- Entry to APPROACH from a state other than EMPTY, with what the re-berth count becomes (R39). -/
def toApproach (reberth : Nat) (s : State) : State :=
  changeTrk { s.trk.clearRefs.emptyWindows.startLoss with berth := { s.berth.unaligned .approach with reberth := reberth } } s

/-- Motion that returns the berth to APPROACH adds 1 to the re-berth count (R32, R35). -/
def motionToApproach (s : State) : State := toApproach (satInc Config.reberthLimit s.berth.reberth) s

/-- The profile that DEFPROF names, if it is VALID (R29). -/
def State.defaultProfile (s : State) : Option ProfileIx :=
  match ix? 8 (s.settings.defprof : Int) with
  | none => none
  | some p => if (s.profile p).state == .valid then some p else none

/-- The berth record filled at the start of an approach (R27, R29). -/
def State.approachRecord (s : State) : Berth :=
  match s.trk.expected with
  | some x => { Berth.reset with state := .approach, profile := some x.profile, trainId := x.trainId, r := x.r, cuts := x.cuts }
  | none => { Berth.reset with state := .approach, profile := s.defaultProfile }

/-- EMPTY to APPROACH (R29): the record filled, the target-loss timer started. -/
def approachEntry (s : State) : State :=
  changeTrk { s.trk.clearRefs with loss := some Config.targetLossMs, berth := s.approachRecord, expected := none } s

/-- R29: an EMPTY berth with T defined and at most APPROACH. -/
def detectApproach (s : State) : State :=
  match s.trk.trackT with
  | none => s
  | some t => if s.berth.state == .empty && t ≤ s.settings.approach then approachEntry s else s

/-- A motion event in a map-holding state (R35). -/
def motionOfMap (s : State) : State :=
  let go (st : BerthState) := changeTrk { s.trk.startLoss with berth := { s.berth with state := st } } s
  match s.berth.state with
  | .aligned => if s.mapClosed then go .departing else go .movedOpen
  | .partialHeld => if s.mapClosed then motionToApproach s else go .movedOpen
  | .departing => if s.mapClosed then s else go .movedOpen
  | .movedOpen => s
  | .empty => s
  | .approach => s
  | .awaitProfile => s
  | .outOfBerth => s
  | .alignFault => s

/-- A motion event in any state (R35). -/
def motion (s : State) : State :=
  match s.berth.state with
  | .outOfBerth => motionToApproach s
  | .alignFault => motionToApproach s
  | .awaitProfile => motionToApproach s
  | .aligned => motionOfMap s
  | .partialHeld => motionOfMap s
  | .departing => motionOfMap s
  | .movedOpen => motionOfMap s
  | .empty => s
  | .approach => s

/-! Marks (R22 to R24). -/

/-- MARK and OVERRUN reports (R24). -/
def markReport (m : MarkIx) (x : Nat) (inbound : Bool) (t : Nat) : Report :=
  { kind := .mark, obj := some (m.val + 1), body := [numF x, if inbound then "INBOUND" else "OUTBOUND", numF t] }

def overrunReport (m : MarkIx) (t : Nat) : Report := { kind := .overrun, obj := some (m.val + 1), body := [numF t] }

/-- The direction in which a mark is crossed, if it is (R23): inbound is true. -/
def crossing (p t x : Nat) : Option Bool :=
  if x < p ∧ t ≤ x then some true else if p ≤ x ∧ x < t then some false else none

/-- A crossing counts for the mark (R23). -/
def dirCounts : MarkDir → Bool → Bool
  | .either, _ => true
  | .inbound, b => b
  | .outbound, b => !b

/-- What a counted crossing does (R24). -/
def crossMark (m : MarkIx) (k : Mark) (inbound : Bool) (t : Nat) (s : State) : State :=
  match k.action with
  | .report => offer (markReport m k.x inbound t) s
  | .overrun =>
    if s.berth.state == .approach && inbound then
      offer (overrunReport m t) (changeTrk { s.trk with berth := { s.berth with state := .outOfBerth, oob := some .overrun } } s)
    else s
  | .clear => if (s.berth.state == .departing || s.berth.state == .movedOpen) && !inbound then toEmpty s else s

/-- One mark of the evaluation (R23). -/
def markStep (p t : Nat) (s : State) (m : MarkIx) : State :=
  match s.mark m with
  | none => s
  | some k =>
    match crossing p t k.x with
    | none => s
    | some inbound => if dirCounts k.dir inbound then crossMark m k inbound t s else s

/-- T recomputed: crossings, then approach detection (R21, R23). The new T becomes the previous position. -/
def recomputeT (s : State) : State :=
  let prev := s.trk.prevT
  let now := s.trk.trackT
  let s := s.setTrk { s.trk with prevT := now }
  let s := match prev, now with
    | some p, some t => allMarks.foldl (markStep p t) s
    | some _, none => s
    | none, some _ => s
    | none, none => s
  detectApproach s

/-! Berth tests after a sample or a silence expiry (R31 to R34). -/

/-- The standstill event in APPROACH (R31). -/
def standstillTest (s : State) : State :=
  if s.trk.standstill then
    let t := s.trk.recordRefs
    match s.berth.profile with
    | some _ => changeTrk { t with berth := s.align s.berth t.sensorA.present t.sensorB.present } s
    | none => changeTrk { t with berth := { s.berth with state := .awaitProfile } } s
  else s

/-- An OK sample whose distance differs from the sensor's reference by more than MOVE (R34). -/
def State.movedFromRef (s : State) (ok : Option (SensorId × Nat)) : Bool :=
  match ok with
  | none => false
  | some (x, d) => match (s.trk.sensor x).ref with | none => false | some r => decide (s.settings.move < dist d r)

/-- An OK sample from a contributing sensor whose distance differs from H by more than MOVE (R34, R46). -/
def State.movedFromHead (s : State) (ok : Option (SensorId × Nat)) : Bool :=
  match ok, s.berth.est with
  | some (.a, d), some e => e.fromA && decide (s.settings.move < dist d e.h)
  | some (.b, d), some e => e.fromB && decide (s.settings.move < dist d e.h)
  | some _, none => false
  | none, _ => false

/-- Neither sensor holds a reference value (R34). -/
def Tracker.noRefs (t : Tracker) : Bool := t.sensorA.ref.isNone && t.sensorB.ref.isNone

/-- The test of OUT_OF_BERTH and ALIGN_FAULT (R34). -/
def restTest (ok : Option (SensorId × Nat)) (s : State) : State :=
  if s.trk.noRefs then (if s.trk.standstill then s.setTrk s.trk.recordRefs else s)
  else if s.movedFromRef ok then motion s else s

/-- The tests of AWAIT_PROFILE (R32). -/
def awaitTest (ok : Option (SensorId × Nat)) (s : State) : State :=
  if s.movedFromRef ok then motion s
  else if (s.trk.sensorA.usable && !s.trk.sensorA.settled) || (s.trk.sensorB.usable && !s.trk.sensorB.settled) then
    toApproach s.berth.reberth s
  else s

/-- The berth tests for the present state, once (R18). -/
def berthTests (ok : Option (SensorId × Nat)) (s : State) : State :=
  match s.berth.state with
  | .empty => s
  | .approach => standstillTest s
  | .awaitProfile => awaitTest ok s
  | .outOfBerth => restTest ok s
  | .alignFault => restTest ok s
  | .aligned => if s.movedFromHead ok then motion s else s
  | .partialHeld => if s.movedFromHead ok then motion s else s
  | .departing => if s.movedFromHead ok then motion s else s
  | .movedOpen => if s.movedFromHead ok then motion s else s

/-- The target-loss timer restarted by an OK sample while the berth is not EMPTY (R33). -/
def Tracker.seen (t : Tracker) : Tracker :=
  { t with loss := if t.berth.state == .empty then t.loss else some Config.targetLossMs }

/-- A sample taken at its sensor (R18). -/
def sampleTaken (x : SensorId) (v : Sample) (s : State) : State :=
  let t := s.trk.setSensor x ((s.trk.sensor x).sampled s.settings.band v)
  match v with
  | .ok d => berthTests (some (x, d)) (recomputeT (s.setTrk t.seen))
  | .noTarget => berthTests none (recomputeT (s.setTrk t))
  | .fault => berthTests none (recomputeT (s.setTrk t))

/-- A byte joins the sample of a sensor: before a start byte it is discarded, and the sixth completes the sample (R192). The sample held
afterwards, and the six bytes where one is complete. -/
def joinSample (part : List Byte) (b : Byte) : List Byte × Option (List Byte) :=
  if part.isEmpty && b != 0xA5#8 then ([], none)
  else if part.length + 1 < 6 then (part ++ [b], none)
  else ([], some (part ++ [b]))

/-- One byte on the input of a sensor (R192). -/
def rangingByte (x : SensorId) (s : State) (b : Byte) : State :=
  let r := joinSample (s.trk.sensor x).part b
  let s := s.setTrk (s.trk.setSensor x
    { s.trk.sensor x with part := r.1, gap := if r.1.isEmpty then 0 else Config.sampleGapMs })
  match r.2 with
  | none => s
  | some six =>
    match sampleOf six with
    | none => s
    | some v => sampleTaken x v s

/-- RANGING_SAMPLE: bytes on the input of a sensor (R18, R192). Ranging does not run in STARTING (R188). -/
def rangingTaken (x : SensorId) (bytes : List Byte) (s : State) : State :=
  if s.start.phase == .starting then s else bytes.foldl (rangingByte x) s

/-- SILENCE_EXPIRY (R19). -/
def silenceExpired (x : SensorId) (s : State) : State :=
  match (s.trk.sensor x).silence with
  | none => s
  | some _ => berthTests none (recomputeT (s.setTrk (s.trk.setSensor x (s.trk.sensor x).silenced)))

/-- TARGET_LOSS (R33). -/
def targetLost (s : State) : State :=
  match s.trk.loss with
  | none => s
  | some _ => if s.berth.state == .aligned then s.setTrk { s.trk with loss := none } else toEmpty s

/-! Records of the berth (R28, R30, R36 to R38). -/

/-- The berth state as a reply field. -/
def State.berthF (s : State) : String := s.berth.state.text

/-- Cut-out indices within 1..48, ascending, none repeated (R28). -/
def cutsOk : List Int → Bool
  | [] => true
  | [c] => decide (1 ≤ c ∧ c ≤ 48)
  | c :: d :: rest => decide (1 ≤ c ∧ c ≤ 48 ∧ c < d) && cutsOk (d :: rest)

/-- An optional field of AR within a range: none for out of range. -/
def optRange (lo hi : Nat) : Option Int → Option (Option Nat)
  | none => some none
  | some x => (within? lo hi x).map some

/-- The berth states in which AR is taken (R28). -/
def BerthState.takesAr : BerthState → Bool
  | .empty => true | .approach => true | .awaitProfile => true
  | .aligned => false | .partialHeld => false | .outOfBerth => false | .alignFault => false | .departing => false | .movedOpen => false

/-- A taken AR (R28). -/
def takeAr (p : ProfileIx) (t r : Option Nat) (cuts : List Nat) (s : State) : State :=
  let b := { s.berth with profile := some p, trainId := t, r := r, cuts := cuts }
  match s.berth.state with
  | .empty => s.setTrk { s.trk with expected := some { profile := p, trainId := t, r := r, cuts := cuts } }
  | .approach => changeTrk { s.trk with berth := b } s
  | .awaitProfile => changeTrk { s.trk with berth := s.align b s.trk.sensorA.present s.trk.sensorB.present } s
  | .aligned => s | .partialHeld => s | .outOfBerth => s | .alignFault => s | .departing => s | .movedOpen => s

/-- AR p t r c1 c2 ... (R28). -/
def doAr (p : Int) (t r : Option Int) (cuts : List Int) (s : State) : Res :=
  match ix? 8 p, optRange 0 65535 t, optRange 0 300000 r, cutsOk cuts with
  | some p, some t, some r, true =>
    refuseIf (!s.berth.state.takesAr) .state
      (refuseIf ((s.profile p).state != .valid) .invalid
        (refuseIf (cuts.any fun c => decide (((s.profile p).doors.length : Int) < c)) .range
          (let s' := takeAr p t r (cuts.map Int.toNat) s
           .ok s' [ixF p, if s.berth.state == .empty then "EXPECTED" else s'.berthF])))
  | _, _, _, _ => .no .range

/-- A sensor that is FAULT or SILENT (R30). -/
def Sensor.dead (v : Sensor) : Bool := v.state == .fault || v.state == .silent

/-- SP r (R30). -/
def doSp (r : Int) (s : State) : Res :=
  match within? 0 300000 r with
  | none => .no .range
  | some r =>
    match s.berth.state with
    | .approach =>
      let s := changeTrk { s.trk with berth := { s.berth with r := some r } } s
      .ok s [numF r, s.berthF]
    | .awaitProfile =>
      let s := changeTrk { s.trk with berth := { s.berth with r := some r } } s
      .ok s [numF r, s.berthF]
    | .empty =>
      match s.trk.expected with
      | none => .no .state
      | some x =>
        refuseIf (!(s.trk.sensorA.dead && s.trk.sensorB.dead)) .state
          (let b := { Berth.reset with profile := some x.profile, trainId := x.trainId, r := some r, cuts := x.cuts }
           let s := changeTrk { s.trk with berth := s.align b none none, expected := none } s
           .ok s [numF r, s.berthF])
    | .aligned => .no .state
    | .partialHeld => .no .state
    | .outOfBerth => .no .state
    | .alignFault => .no .state
    | .departing => .no .state
    | .movedOpen => .no .state

/-- DP (R36). -/
def doDp (s : State) : Res :=
  refuseIf (s.berth.state == .empty || s.berth.state == .approach) .state
    (let s := motion s
     .ok s [s.berthF])

/-- AC (R37). -/
def doAc (s : State) : Res :=
  refuseIf (s.berth.state != .partialHeld) .state
    (.ok (changeTrk { s.trk with berth := { s.berth with state := .aligned, accepted := true } } s) [])

/-- The berth record after RJ (R37). -/
def Berth.rejected (b : Berth) : Berth :=
  { b with state := .outOfBerth, oob := some .rejected, partials := ⟨false, false, false⟩, accepted := false, map := [], uncovered := [] }

/-- RJ (R37). -/
def doRj (s : State) : Res :=
  refuseIf (s.berth.state != .partialHeld) .state (.ok (changeTrk { s.trk with berth := s.berth.rejected } s) [])

/-- The berth states in which BC is taken (R38). -/
def BerthState.takesBc : BerthState → Bool
  | .departing => true | .outOfBerth => true | .alignFault => true | .awaitProfile => true
  | .empty => false | .approach => false | .aligned => false | .partialHeld => false | .movedOpen => false

/-- BC (R38): the record emptied, then APPROACH at once where T is defined. -/
def doBc (s : State) : Res :=
  refuseIf (!s.berth.state.takesBc) .state
    (let s := toEmpty s
     let s := if s.trk.trackT.isSome then approachEntry s else s
     .ok s [s.berthF])

/-- A sensor as BS shows it (R40). -/
def Sensor.bsF (v : Sensor) : List String := [v.state.text, optF v.last]

/-- The BS content (R40). -/
def State.bsF (s : State) : List String :=
  s.berth.fieldsF ++ ["A"] ++ s.trk.sensorA.bsF ++ ["B"] ++ s.trk.sensorB.bsF ++ ["T", optF s.trk.trackT] ++
  (match s.trk.expected with
   | none => ["EXPECTED", "NO"]
   | some x => ["EXPECTED", "YES", ixF x.profile, optF x.trainId])

/-- BS (R40). -/
def doBs (s : State) : Res := .ok s s.bsF

/-- A map entry as BM shows it (R59). -/
def MapEntry.textF (e : MapEntry) : List String := [ixF e.j, numF e.k, numF e.ov]

/-- BM [position] (R59, R181). -/
def doBm (l : Link) (pos : Option Int) (s : State) : Res :=
  match (s.port l).mapCur.read s.berth.map.length pos with
  | none => .no .range
  | some (st, again, c) =>
    .ok (s.setPort l { s.port l with mapCur := c })
      (restartF again ++ [numF s.berth.map.length] ++ ((itemsAt s.berth.map st).map MapEntry.textF).flatten)

/-- UL [position] (R60, R181). -/
def doUl (l : Link) (pos : Option Int) (s : State) : Res :=
  match (s.port l).ulCur.read s.berth.uncovered.length pos with
  | none => .no .range
  | some (st, again, c) =>
    .ok (s.setPort l { s.port l with ulCur := c })
      (restartF again ++ [numF s.berth.uncovered.length] ++ (itemsAt s.berth.uncovered st).map numF)

/-- MK m x dir action (R22). -/
def doMk (m : Int) (x : Option Int) (dir : Kw MarkDir) (action : Kw MarkAction) (s : State) : Res :=
  match ix? 8 m with
  | none => .no .range
  | some m =>
    refuseIf (s.berth.state != .empty) .busy
      (match need? 0 300000 x, dir, action with
       | some x, .is d, .is a => .ok (s.setMark m (some { x := x, dir := d, action := a })) [ixF m, numF x, dirName d, actionName a]
       | _, _, _ => .no .range)

/-- MX m (R22). -/
def doMx (m : Int) (s : State) : Res :=
  match ix? 8 m with
  | none => .no .range
  | some m =>
    refuseIf (s.berth.state != .empty) .busy
      (refuseIf (s.mark m).isNone .notFound (.ok (s.setMark m none) [ixF m]))

end Sys2Proof.Machine
end

