-- ==== Sys2Proof/Machine/DoorBus.lean ====
section
/-! DEFINITION. The door bus master (04): the cycle and its polls, the order carried to each door, good replies, misses and comms loss. -/

namespace Sys2Proof.Machine

/-! The order carried (R75 to R77). -/

/-- R75: the order of each door state in SEQUENCER custody. -/
def DoorState.order : DoorState → Order
  | .unknown => ⟨.hold, .off, false⟩
  | .closedLocked => ⟨.close, .off, false⟩
  | .closedUnlocked => ⟨.hold, .off, false⟩
  | .opening => ⟨.opn, .steady, false⟩
  | .opened => ⟨.hold, .steady, false⟩
  | .warning => ⟨.hold, .flash, true⟩
  | .closing => ⟨.close, .flash, false⟩
  | .reopening => ⟨.opn, .steady, false⟩
  | .paused => ⟨.hold, .steady, false⟩
  | .held => ⟨.hold, .steady, false⟩
  | .released => ⟨.release, .steady, false⟩
  | .fault => ⟨.hold, .off, false⟩

/-- The drive order of a maintenance order. -/
def maintDrive : MaintOrder → DriveOrder
  | .hold => .hold
  | .opn => .opn
  | .close => .close

/-- R76 in RUNNING: the order by custody. -/
def Door.custodyOrder (d : Door) : Order :=
  match d.custody with
  | .sequencer => d.state.order
  | .maint => if d.state == .unknown || d.state == .fault then ⟨.hold, .off, false⟩ else ⟨maintDrive d.mOrder, .off, false⟩
  | .emergency =>
    if d.state == .released then ⟨.release, .steady, false⟩
    else if d.state == .opening then ⟨.opn, .steady, false⟩
    else ⟨.hold, .steady, false⟩
  | .isolated => ⟨.hold, .off, false⟩

/-- R77: OPEN goes to a door that is not a map door only in MAINT custody or in REOPENING. -/
def Order.limit (isMap : Bool) (d : Door) (o : Order) : Order :=
  if o.drive == .opn && !isMap && d.custody != .maint && d.state != .reopening then { o with drive := .hold } else o

/-- The order of door i's poll (R75 to R77): the phase is read first. -/
def State.orderFor (s : State) (i : DoorIx) : Order :=
  match s.start.phase with
  | .running => (s.door i).custodyOrder.limit (s.berth.isMapDoor i) (s.door i)
  | .configFault => ⟨.hold, .off, false⟩
  | .starting => ⟨.hold, .off, false⟩

/-! Polls (R61, R62, R70, R79). -/

/-- The over-force run at the start of a poll: 0 where the drive order differs from the one before (R70). -/
def Door.polled (o : DriveOrder) (d : Door) : Door :=
  { d with lastOrder := some o, ovf := match d.lastOrder with | some p => if p == o then d.ovf else 0 | none => d.ovf }

/-- The poll of door i begins (R62): the order frame is formed from what holds now, and the reply window is 2 ms + 0.25 ms x code. -/
def startPoll (i : DoorIx) (rest : List DoorIx) (s : State) : State :=
  match (s.door i).entry with
  | none => s.setBus { cycle := rest, poll := none }
  | some e =>
    let o := s.orderFor i
    let s := putDoor i ((s.door i).polled o.drive) [] s
    s.setBus { cycle := rest, poll := some { door := i, frame := orderFrame i e.force o, window := 8 + e.window, discard := false } }

/-- The next poll: the next door of the cycle, or a new cycle with a freshly taken list (R61). No polling in STARTING (R80). -/
def nextPoll (s : State) : State :=
  if s.start.phase == .starting then s.setBus { s.bus with poll := none }
  else
    match s.bus.cycle with
    | i :: rest => startPoll i rest s
    | [] =>
      match s.configuredDoors with
      | [] => s.setBus { cycle := [], poll := none }
      | i :: rest => startPoll i rest s

/-- The door table has changed while no poll is in flight: a new list is taken (R61). -/
def busWake (s : State) : State :=
  match s.bus.poll with
  | some _ => s
  | none => nextPoll s

/-- The entry of door i is removed (R79): out of the cycle, and a poll of it in flight has its outcome discarded. -/
def Bus.dropDoor (i : DoorIx) (b : Bus) : Bus :=
  { cycle := b.cycle.filter (· != i),
    poll := b.poll.map fun p => if p.door == i then { p with discard := true } else p }

/-! Comms loss and good replies (R67 to R69). -/

/-- The COMMS reports (R78). -/
def commsLossReport (i : DoorIx) (was : DoorState) (k : MissKind) : Report :=
  { kind := .comms, obj := some (i.val + 1), body := ["LOSS", was.text, k.text] }

def commsBackReport (i : DoorIx) (now : Door) : Report :=
  { kind := .comms, obj := some (i.val + 1), body := ["RECOVERY"] ++ now.stateF }

/-- The third miss at door i (R67); its COMMS, TEST, CUSTODY and DOOR reports are queued in this order (log 11). -/
def commsLoss (i : DoorIx) (k : MissKind) (s : State) : State :=
  let d := s.door i
  let e := d.endTest i .aborted
  changeDoor i { e.1.toFault .comms with misses := Config.missLimit, ovf := 0 } []
    (offers e.2 (offer (commsLossReport i d.state k) s))

/-- A miss at door i (R67). -/
def doorMissed (i : DoorIx) (k : MissKind) (s : State) : State :=
  let d := s.door i
  if d.misses + 1 == Config.missLimit then commsLoss i k s
  else s.setDoor i { d with misses := satInc Config.missLimit d.misses }

/-- The door after steps 1 to 4 of R68: miss counter, last status, over-force run, and conditions latched. -/
def Door.heard (st : Status) (d : Door) : Door := d.latch (d.takeStatus st)

/-- Steps 1 to 4 of R68 as one change of the door, with the recovery report of R69 before it; `now` is the door as step 5 leaves it. -/
def statusTaken (i : DoorIx) (st : Status) (now : Door) (s : State) : State :=
  putDoor i ((s.door i).heard st) [] (offerIf (s.door i).live.comms (commsBackReport i now) s)

/-- Step 5 of R68 as another change, with the reports it queues, then egress at a lock (R104). `old` is the door before the reply. -/
def stepTaken (i : DoorIx) (old : Door) (e : Door × List Report) (s : State) : State :=
  egressAtLock (old.state == .closing && old.custody == .sequencer) i (changeDoor i e.1 [] (offers e.2 s))

/-- A good reply from door i (R68), then the handle path of a newly operated handle (R132). -/
def doorReplied (i : DoorIx) (st : Status) (s : State) : State :=
  let old := s.door i
  let e := (old.heard st).replyStep i s.settings (s.berth.isMapDoor i) old.live.comms st
  let s := stepTaken i old e (statusTaken i st e.1 s)
  if st.handle && !old.live.handle then handlePath i s else s

/-- The end of a poll whose entry was removed under it (R79): a frame is discarded and the window runs on, and at its end the next
poll begins. -/
def endDiscarded (how : PollEnd) (s : State) : State :=
  match how with
  | .frame _ => s
  | .missing => nextPoll (s.setBus { s.bus with poll := none })
  | .late => nextPoll (s.setBus { s.bus with poll := none })

/-- The poll in flight ends (R62, R66): its outcome is taken at the door, and the next poll begins. With no poll in flight whatever is
received is discarded (R66). -/
def endPoll (how : PollEnd) (s : State) : State :=
  match s.bus.poll with
  | none => s
  | some p =>
    if p.discard then endDiscarded how s
    else
      let s := s.setBus { s.bus with poll := none }
      match judgePoll p.door how with
      | .good st => nextPoll (doorReplied p.door st s)
      | .miss k => nextPoll (doorMissed p.door k s)

end Sys2Proof.Machine
end

