-- ==== Sys2Proof/Machine/ConfigStore.lean ====
section
/-! DEFINITION. The configuration store (01): the door table, the staged edits of profiles and the timing settings. -/

namespace Sys2Proof.Machine

/-! The door table (R1 to R5). -/

/-- A field of DC: `-` keeps the current value of a configured entry and gives the default to an unconfigured one; none where a given
value is out of range (R2). -/
def dcField (cur : Option Nat) (dflt lo hi : Nat) : Option Int → Option Nat
  | some x => within? lo hi x
  | none => some (cur.getD dflt)

/-- An edge of DC: mandatory where the entry is unconfigured (R2 step 3). -/
def dcEdge (cur : Option Nat) : Option Int → Option Nat
  | some x => within? 0 300000 x
  | none => cur

/-- A YES or NO field of DC. -/
def dcFlag (cur : Option Bool) : Option (Kw Bool) → Option Bool
  | some (.is b) => some b
  | some .unknown => none
  | none => some (cur.getD false)

/-- The entry that a DC resolves to; none where steps 3 or 4 of R2 refuse it (both RANGE). -/
def dcEntry (old : Option DoorEntry) (near far group : Option Int) (egress : Option (Kw Bool)) (retry force blank window : Option Int)
    (iso : Option (Kw Bool)) : Option DoorEntry := do
  let near ← dcEdge (old.map (·.near)) near
  let far ← dcEdge (old.map (·.far)) far
  let group ← dcField (old.map (·.group)) 1 1 15 group
  let egress ← dcFlag (old.map (·.egress)) egress
  let retry ← dcField (old.map (·.retry)) 3 0 5 retry
  let force ← dcField (old.map (·.force)) 120 1 255 force
  let blank ← dcField (old.map (·.blank)) 3 1 8 blank
  let window ← dcField (old.map (·.window)) 4 0 15 window
  let iso ← dcFlag (old.map (·.iso)) iso
  pure { near := near, far := far, group := group, egress := egress, retry := retry, force := force, blank := blank, window := window, iso := iso }

/-- The width lies within 800..3 000 (R1). -/
def DoorEntry.widthOk (e : DoorEntry) : Bool := decide (e.near + 800 ≤ e.far ∧ e.far ≤ e.near + 3000)

/-- Two entries overlap (R1). -/
def DoorEntry.overlaps (a b : DoorEntry) : Bool := decide (a.near < b.far ∧ b.near < a.far)

/-- The edges of an entry for door i overlap those of another configured entry (R2 step 6). -/
def State.edgesClash (s : State) (i : DoorIx) (e : DoorEntry) : Bool :=
  allDoors.any fun k => k != i && (match (s.door k).entry with | some x => e.overlaps x | none => false)

/-- R2 step 7 at a configured door. -/
def Door.dcBlocked (old e : DoorEntry) (d : Door) : Bool :=
  d.custody == .emergency || d.testing ||
  (!old.iso && e.iso && d.custody != .isolated && !(d.state == .closedLocked || d.state == .fault || d.state == .unknown))

/-- A door newly configured (R3): its context afresh, its custody from iso. -/
def Door.created (e : DoorEntry) : Door := { Door.reset with entry := some e, custody := if e.iso then .isolated else .sequencer }

/-- The new fields on a configured door; the retry count is lowered to the new limit + 1 (R4). -/
def Door.edited (e : DoorEntry) (d : Door) : Door := { d with entry := some e, retry := min d.retry (e.retry + 1) }

/-- The iso row of R4. -/
def isoChange (i : DoorIx) (old e : DoorEntry) (s : State) : State :=
  if !old.iso && e.iso && (s.door i).custody != .isolated then isolate i s
  else if old.iso && !e.iso && (s.door i).custody == .isolated then unisolate i s
  else s

/-- The nine fields of a door entry (R2). -/
def DoorEntry.fieldsF (e : DoorEntry) : List String :=
  [numF e.near, numF e.far, numF e.group, yesNoF e.egress, numF e.retry, numF e.force, numF e.blank, numF e.window, yesNoF e.iso]

/-- DC j ... (R2 to R4). A created door is announced by DOOR j and is first polled in the next cycle (R61). -/
def doDc (j : Int) (near far group : Option Int) (egress : Option (Kw Bool)) (retry force blank window : Option Int)
    (iso : Option (Kw Bool)) (s : State) : Res :=
  match ix? 32 j with
  | none => .no .range
  | some i =>
    refuseIf (s.berth.state != .empty) .busy
      (match dcEntry (s.door i).entry near far group egress retry force blank window iso with
       | none => .no .range
       | some e =>
         refuseIf (!e.widthOk || s.edgesClash i e) .range
           (match (s.door i).entry with
            | none =>
              let s := reeval (offer (doorReport i (Door.created e)) (s.setDoor i (Door.created e)))
              .ok (busWake s) (ixF i :: e.fieldsF)
            | some old =>
              refuseIf ((s.door i).dcBlocked old e) .state
                (.ok (isoChange i old e (putDoor i ((s.door i).edited e) [] s)) (ixF i :: e.fieldsF))))

/-- Some zone names door i (R5). -/
def State.zoneNames (s : State) (i : DoorIx) : Bool := s.zonesList.any fun x => x.2.cfg.names i

/-- DX j (R5). A custody record that the removal changes (R130) is reported, with no event name (R131, log 35). -/
def doDx (j : Int) (s : State) : Res :=
  match ix? 32 j with
  | none => .no .range
  | some i =>
    refuseIf (s.berth.state != .empty) .busy
      (refuseIf (!(s.door i).configured) .notFound
        (refuseIf ((s.door i).custody == .emergency || (s.door i).testing) .state
          (refuseIf (s.zoneNames i) .busy
            (let old := s.door i
             let s := (cancelPending "DX" i s).setDoor i Door.reset
             let s := offerIf (!old.custodySame Door.reset) (custodyReport i Door.reset s.rel.pendingMaint []) s
             let s := reeval (offer (doorGoneReport i) (s.setBus (s.bus.dropDoor i)))
             .ok s [ixF i]))))

/-! Profiles (R7 to R14). -/

/-- A profile is named by the berth record or the expected-arrival record (R8). -/
def State.referenced (s : State) (p : ProfileIx) : Bool :=
  s.berth.profile == some p || (match s.trk.expected with | some x => x.profile == p | none => false)

/-- The open edit belongs to a source (R10). -/
def State.ownsEdit (s : State) (src : Source) : Option ProfileIx :=
  match s.cfg.edit with
  | some e => if e.owner = src then some e.profile else none
  | none => none

/-- The edit of a source abandoned: the profile becomes INVALID with reason ABANDONED, keeping what it holds (R10). -/
def abandonEdit (src : Source) (s : State) : State :=
  match s.ownsEdit src with
  | none => s
  | some p =>
    let s := s.setProfile p { s.profile p with state := .invalid .abandoned }
    profileListChanged p { s with cfg := { s.cfg with edit := none } }

/-- A flag of PB. -/
def pbFlag : Option (Kw Bool) → Option Bool
  | none => some false
  | some (.is b) => some b
  | some .unknown => none

/-- PB's fields, each within its range or at its default; Tpartial is clamped up to Tstop (R9). -/
def pbFields (len stop tstop tpartial omin dagree : Option Int) (rep : Option (Kw Bool)) (gap : Option Int) : Option ProfileFields := do
  let len ← need? 20000 300000 len
  let stop ← need? 0 10000 stop
  let tstop ← opt? 300 0 1000 tstop
  let tpartial ← match tpartial with
    | none => some 600
    | some x => if x ≤ 2000 then some x.toNat else none
  let omin ← opt? 700 200 3000 omin
  let dagree ← opt? 150 50 1000 dagree
  let rep ← pbFlag rep
  let gap ← opt? 16 1 64 gap
  pure { len := len, stop := stop, tstop := tstop, tpartial := max tstop tpartial, omin := omin, dagree := dagree, rep := rep, gap := gap }

/-- The eight fields of a profile (R9). -/
def ProfileFields.fieldsF (f : ProfileFields) : List String :=
  [numF f.len, numF f.stop, numF f.tstop, numF f.tpartial, numF f.omin, numF f.dagree, yesNoF f.rep, numF f.gap]

/-- An edit is open that is not the source's own (R9 step 3). -/
def State.foreignEdit (s : State) (src : Source) : Bool := s.cfg.edit.isSome && (s.ownsEdit src).isNone

/-- PB p ... (R9). -/
def doPb (src : Source) (p : Int) (len stop tstop tpartial omin dagree : Option Int) (rep : Option (Kw Bool)) (gap : Option Int)
    (s : State) : Res :=
  match ix? 8 p with
  | none => .no .range
  | some p =>
    refuseIf (s.referenced p) .busy
      (refuseIf (s.foreignEdit src) .busy
        (match pbFields len stop tstop tpartial omin dagree rep gap with
         | none => .no .range
         | some f =>
           let s := abandonEdit src s
           let s := s.setProfile p { state := .editing, fields := some f, doors := [] }
           .ok (profileListChanged p { s with cfg := { s.cfg with edit := some { owner := src, profile := p } } }) (ixF p :: f.fieldsF)))

/-- PD tn tf (R11). -/
def doPd (src : Source) (tn tf : Option Int) (s : State) : Res :=
  match s.ownsEdit src with
  | none => .no .state
  | some p =>
    match need? 0 300000 tn, need? 0 300000 tf with
    | some tn, some tf =>
      let x := s.profile p
      refuseIf (Config.trainDoorLimit ≤ x.doors.length) .range
        (let s := s.setProfile p { x with doors := x.doors ++ [{ tn := tn, tf := tf }] }
         .ok (profileListChanged p s) [numF (x.doors.length + 1), numF tn, numF tf])
    | _, _ => .no .range

/-- Width within 600..2 500 (R12). -/
def TrainDoor.widthOk (t : TrainDoor) : Bool := decide (t.tn + 600 ≤ t.tf ∧ t.tf ≤ t.tn + 2500)

/-- The first k, from 1, whose tf is not less than the next tn (R12 ORDER). -/
def badOrder (k : Nat) : List TrainDoor → Option Nat
  | a :: b :: rest => if b.tn ≤ a.tf then some k else badOrder (k + 1) (b :: rest)
  | [_] => none
  | [] => none

/-- The first entry, from 1, that fails a check. -/
def firstBad (p : TrainDoor → Bool) (l : List TrainDoor) : Option Nat := (l.findIdx? p).map (· + 1)

/-- The validation of R12: the first reason that fails, with the offending entry where it has one. -/
def validate (f : ProfileFields) (ds : List TrainDoor) : Option (ProfileFault × Option Nat) :=
  if ds.isEmpty then some (.count, none)
  else match firstBad (fun t => !t.widthOk) ds with
    | some k => some (.width, some k)
    | none => match badOrder 1 ds with
      | some k => some (.order, some k)
      | none => match firstBad (fun t => decide (f.len < t.tf)) ds with
        | some k => some (.length, some k)
        | none => if 300000 < f.stop + f.len then some (.span, none) else none

/-- PE (R12). A profile with no fields, which no edit has, is left as it is and refused. -/
def doPe (src : Source) (s : State) : Res :=
  match s.ownsEdit src with
  | none => .no .state
  | some p =>
    let x := s.profile p
    match x.fields with
    | none => .no .state
    | some f =>
      let close (st : ProfileState) (s : State) : State :=
        let s := s.setProfile p { x with state := st }
        { s with cfg := { s.cfg with edit := none } }
      match validate f x.doors with
      | none => .ok (close .valid s) [ixF p, "VALID"]
      | some (why, k) => .ok (close (.invalid why) s) ([ixF p, "INVALID", why.text] ++ (match k with | some n => [numF n] | none => []))

/-- PX p (R13). -/
def doPx (src : Source) (p : Int) (s : State) : Res :=
  match ix? 8 p with
  | none => .no .range
  | some p =>
    refuseIf (s.referenced p) .busy
      (refuseIf ((s.profile p).state == .editing && s.ownsEdit src != some p) .busy
        (let edit := match s.cfg.edit with | some e => if e.profile == p then none else some e | none => none
         let s := s.setProfile p Profile.reset
         .ok (profileListChanged p { s with cfg := { s.cfg with edit := edit } }) [ixF p]))

/-- State and INVALID reason of a profile (R14). -/
def ProfileState.fieldsF : ProfileState → List String
  | .empty => ["EMPTY"] | .editing => ["EDITING"] | .valid => ["VALID"] | .invalid why => ["INVALID", why.text]

/-- PR p [position] (R14, R181). -/
def doPr (l : Link) (p : Int) (pos : Option Int) (s : State) : Res :=
  match ix? 8 p with
  | none => .no .range
  | some p =>
    let x := s.profile p
    if x.state == .empty then .ok s ["EMPTY"]
    else
      match (s.port l).listCur.read (.profile p) x.doors.length pos with
      | none => .no .range
      | some (st, again, c) =>
        .ok (s.setPort l { s.port l with listCur := c })
          (x.state.fieldsF ++ (match x.fields with | some f => f.fieldsF | none => []) ++ [numF x.doors.length] ++ restartF again ++
           ((itemsAt x.doors st).map fun t => [numF t.tn, numF t.tf]).flatten)

/-! Timing settings (R15 to R17). -/

/-- The value of a setting. -/
def Settings.get (c : Settings) : Setting → Nat
  | .warn => c.warn | .maxhold => c.maxhold | .pause => c.pause | .opento => c.opento | .closeto => c.closeto | .lockto => c.lockto
  | .egress => c.egress | .supv => c.supv | .band => c.band | .move => c.move | .approach => c.approach | .defprof => c.defprof

/-- The default of a setting (R15). -/
def settingDefault (n : Setting) : Nat := Settings.reset.get n

/-- The range of a setting; MAXHOLD's lower end is the WARN in force (R15, R16). -/
def settingRange (c : Settings) : Setting → Nat × Nat
  | .warn => (500, 10000) | .maxhold => (c.warn, 30000) | .pause => (500, 10000) | .opento => (1000, 10000)
  | .closeto => (1000, 10000) | .lockto => (200, 3000) | .egress => (0, 60000) | .supv => (500, 10000) | .band => (10, 100)
  | .move => (50, 500) | .approach => (10000, 300000) | .defprof => (0, 8)

/-- The value stored by TS: clamped, or the default (R15). -/
def settingValue (c : Settings) (n : Setting) (v : Option Int) : Nat :=
  let r := settingRange c n
  (clamp r.1 r.2 (v.getD (settingDefault n))).toNat

/-- The settings after a TS, with the coupling of R16. -/
def Settings.put (c : Settings) (n : Setting) (v : Nat) : Settings :=
  match n with
  | .warn => { c with warn := v, maxhold := max c.maxhold v }
  | .maxhold => { c with maxhold := v } | .pause => { c with pause := v } | .opento => { c with opento := v }
  | .closeto => { c with closeto := v } | .lockto => { c with lockto := v } | .egress => { c with egress := v }
  | .supv => { c with supv := v } | .band => { c with band := v } | .move => { c with move := v }
  | .approach => { c with approach := v } | .defprof => { c with defprof := v }

/-- A setting as TS and SV answer it (R15, R16). -/
def Settings.replyF (c : Settings) (n : Setting) : List String :=
  match n with
  | .warn => ["WARN", numF c.warn, "MAXHOLD", numF c.maxhold]
  | .maxhold => ["WARN", numF c.warn, "MAXHOLD", numF c.maxhold]
  | .pause => [settingName .pause, numF c.pause] | .opento => [settingName .opento, numF c.opento]
  | .closeto => [settingName .closeto, numF c.closeto] | .lockto => [settingName .lockto, numF c.lockto]
  | .egress => [settingName .egress, numF c.egress] | .supv => [settingName .supv, numF c.supv]
  | .band => [settingName .band, numF c.band] | .move => [settingName .move, numF c.move]
  | .approach => [settingName .approach, numF c.approach] | .defprof => [settingName .defprof, numF c.defprof]

/-- TS name value (R15, R16). -/
def doTs (name : Kw Setting) (v : Option Int) (s : State) : Res :=
  match name with
  | .unknown => .no .unknown
  | .is n =>
    let c := s.settings.put n (settingValue s.settings n v)
    .ok { s with cfg := { s.cfg with settings := c } } (c.replyF n)

/-- SV name (R17). -/
def doSv (name : Kw Setting) (s : State) : Res :=
  match name with
  | .unknown => .no .unknown
  | .is n => .ok s (s.settings.replyF n)

end Sys2Proof.Machine
end

