-- ==== Sys2Proof/Machine/Operands.lean ====
section
/-! DEFINITION. Operand forms: how a request line is read into a record (R173, 12 section 12.1). -/

namespace Sys2Proof.Machine

/-! Characters and field forms (R173). -/

def isUpper (c : Char) : Bool := decide ('A' ≤ c ∧ c ≤ 'Z')
def isDec (c : Char) : Bool := decide ('0' ≤ c ∧ c ≤ '9')
/-- The printable set, 20 to 7E (12 section 12.1). -/
def isPrintable (c : Char) : Bool := decide (0x20 ≤ c.toNat ∧ c.toNat ≤ 0x7E)

/-- Fields separated by exactly one space; two spaces together, or one at an end, give an empty field. -/
def splitFields : List Char → List (List Char)
  | [] => [[]]
  | c :: cs =>
    if c == ' ' then [] :: splitFields cs
    else match splitFields cs with
      | [] => [[c]]
      | f :: fs => (c :: f) :: fs

/-- The number of a run of decimal digits. -/
def digitsVal (cs : List Char) : Nat := cs.foldl (fun n c => n * 10 + (c.toNat - 48)) 0

/-- 1..10 decimal digits. -/
def natF (cs : List Char) : Option Nat :=
  if cs.all isDec && decide (1 ≤ cs.length) && decide (cs.length ≤ 10) then some (digitsVal cs) else none

/-- A decimal field: optional sign, then 1..10 digits. -/
def decF (cs : List Char) : Option Int :=
  match cs with
  | '+' :: rest => (natF rest).map Int.ofNat
  | '-' :: rest => (natF rest).map fun n => -(n : Int)
  | _ => (natF cs).map Int.ofNat

/-- A decimal field or `-`. -/
def optDecF (cs : List Char) : Option (Option Int) := if cs = ['-'] then some none else (decF cs).map some

/-- The form of a keyword: capital letters, digits and underscores, beginning with a letter. -/
def isKeyword : List Char → Bool
  | [] => false
  | c :: cs => isUpper c && cs.all fun x => isUpper x || isDec x || x == '_'

/-- A keyword field: one of a table, or another of the right form. -/
def kwF {α : Type} (tab : List (String × α)) (cs : List Char) : Option (Kw α) :=
  if isKeyword cs then
    some (match tab.find? (fun x => x.1.toList == cs) with | some x => .is x.2 | none => .unknown)
  else none

/-- A keyword field or `-`. -/
def optKwF {α : Type} (tab : List (String × α)) (cs : List Char) : Option (Option (Kw α)) :=
  if cs = ['-'] then some none else (kwF tab cs).map some

/-- A keyword field where `-` has no meaning and counts as a keyword not known (log 15). -/
def dashKwF {α : Type} (tab : List (String × α)) (cs : List Char) : Option (Kw α) := if cs = ['-'] then some .unknown else kwF tab cs

/-- The value of a hexadecimal digit 0..9 or A..F. -/
def hexVal (c : Char) : Option Nat :=
  if isDec c then some (c.toNat - 48) else if 'A' ≤ c ∧ c ≤ 'F' then some (c.toNat - 55) else none

/-- A byte field: exactly two hexadecimal digits. -/
def byteFieldF : List Char → Option Byte
  | [a, b] => match hexVal a, hexVal b with
    | some x, some y => some (BitVec.ofNat 8 (x * 16 + y))
    | _, _ => none
  | _ => none

/-- A list of fields, each of one form. -/
def allF {α : Type} (f : List Char → Option α) : List (List Char) → Option (List α)
  | [] => some []
  | x :: xs => match f x, allF f xs with
    | some y, some ys => some (y :: ys)
    | _, _ => none

def boolTab : List (String × Bool) := [("YES", true), ("NO", false)]
def settingTab : List (String × Setting) := allSettings.map fun x => (settingName x, x)
def dirTab : List (String × MarkDir) := [.inbound, .outbound, .either].map fun x => (dirName x, x)
def actionTab : List (String × MarkAction) := [.report, .overrun, .clear].map fun x => (actionName x, x)
def zoneKindTab : List (String × ZoneKind) := [.doorFront, .gap].map fun x => (zoneKindName x, x)
def maintTab : List (String × MaintOrder) := [.hold, .opn, .close].map fun x => (maintOrderName x, x)

/-! Records by verb (12 section 12.1). -/

/-- The fields of DC. -/
def parseDc (l : Link) : List (List Char) → Option Instr
  | [j, near, far, group, egress, retry, force, blank, window, iso] => do
    pure (.dc l (← decF j) (← optDecF near) (← optDecF far) (← optDecF group) (← optKwF boolTab egress) (← optDecF retry)
      (← optDecF force) (← optDecF blank) (← optDecF window) (← optKwF boolTab iso))
  | _ => none

/-- The fields of PB. -/
def parsePb (l : Link) : List (List Char) → Option Instr
  | [p, len, stop, tstop, tpartial, omin, dagree, rep, gap] => do
    pure (.pb l (← decF p) (← optDecF len) (← optDecF stop) (← optDecF tstop) (← optDecF tpartial) (← optDecF omin) (← optDecF dagree)
      (← optKwF boolTab rep) (← optDecF gap))
  | _ => none

/-- The fields of ZC. -/
def parseZc (l : Link) : List (List Char) → Option Instr
  | [z, head, first, count, kind, d1, d2, thr, on, off, en] => do
    pure (.zc l (← decF z) (← optDecF head) (← optDecF first) (← optDecF count) (← optKwF zoneKindTab kind) (← optDecF d1) (← optDecF d2)
      (← optDecF thr) (← optDecF on) (← optDecF off) (← optKwF boolTab en))
  | _ => none

/-- The fields of AR. -/
def parseAr (l : Link) : List (List Char) → Option Instr
  | p :: t :: r :: cuts => do pure (.ar l (← decF p) (← optDecF t) (← optDecF r) (← allF decF cuts))
  | _ => none

/-- The fields of WA (R180): an object keyword not in its list is SYNTAX. -/
def parseWa (l : Link) : List (List Char) → Option Instr
  | [o] =>
    if o = "BERTH".toList then some (.wa l (.is .berth)) else if o = "SECURE".toList then some (.wa l (.is .secure))
    else if o = "NONE".toList then some (.wa l (.is .none)) else none
  | [o, x] =>
    if o = "DOOR".toList then (decF x).map fun j => .wa l (.is (.door j))
    else if o = "ZONE".toList then (decF x).map fun z => .wa l (.is (.zone z))
    else if o = "HEAD".toList then (decF x).map fun h => .wa l (.is (.head h)) else none
  | _ => none

/-- The list word of ES (R158). -/
def esWord (cs : List Char) : Option EsList := if cs = ['D'] then some .doors else if cs = ['Z'] then some .zones else none

/-- The fields of ES. -/
def parseEs (l : Link) : List (List Char) → Option Instr
  | [] => some (.es l none none)
  | [w] => (esWord w).map fun k => .es l (some (.is k)) none
  | [w, x] => do pure (.es l (some (.is (← esWord w))) (some (← decF x)))
  | _ => none

/-- The fields of LM (R177). -/
def parseLm (l : Link) : List (List Char) → Option Instr
  | [a, b, c, d] => do pure (.lm l (← optKwF boolTab a) (← optKwF boolTab b) (← optKwF boolTab c) (← optKwF boolTab d))
  | _ => none

/-- A record with no fields. -/
def noFields (i : Instr) : List (List Char) → Option Instr
  | [] => some i
  | _ => none

/-- A record with one decimal field. -/
def oneDec (f : Int → Instr) : List (List Char) → Option Instr
  | [x] => (decF x).map f
  | _ => none

/-- A record with an optional position; that `-` in its place is SYNTAX is the model's choice (log 15). -/
def optPos (f : Option Int → Instr) : List (List Char) → Option Instr
  | [] => some (f none)
  | [x] => (decF x).map fun p => f (some p)
  | _ => none

/-- The fields of a verb read into its record; none where the form is not one the verb takes. -/
def parseBody (l : Link) : Verb → List (List Char) → Option Instr
  | .dc, fs => parseDc l fs
  | .dx, fs => oneDec (.dx l) fs
  | .pb, fs => parsePb l fs
  | .pd, [tn, tf] => do pure (.pd l (← optDecF tn) (← optDecF tf))
  | .pd, _ => none
  | .pe, fs => noFields (.pe l) fs
  | .px, fs => oneDec (.px l) fs
  | .pr, [p] => (decF p).map fun p => .pr l p none
  | .pr, [p, x] => do pure (.pr l (← decF p) (some (← decF x)))
  | .pr, _ => none
  | .ts, [n, v] => do pure (.ts l (← kwF settingTab n) (← optDecF v))
  | .ts, _ => none
  | .sv, [n] => (kwF settingTab n).map fun n => .sv l n
  | .sv, _ => none
  | .mk, [m, x, d, a] => do pure (.mk l (← decF m) (← optDecF x) (← dashKwF dirTab d) (← dashKwF actionTab a))
  | .mk, _ => none
  | .mx, fs => oneDec (.mx l) fs
  | .ar, fs => parseAr l fs
  | .sp, fs => oneDec (.sp l) fs
  | .dp, fs => noFields (.dp l) fs
  | .ac, fs => noFields (.ac l) fs
  | .rj, fs => noFields (.rj l) fs
  | .bc, fs => noFields (.bc l) fs
  | .bs, fs => noFields (.bs l) fs
  | .bm, fs => optPos (.bm l) fs
  | .ul, fs => optPos (.ul l) fs
  | .ds, fs => oneDec (.ds l) fs
  | .op, fs => oneDec (.op l) fs
  | .cl, fs => oneDec (.cl l) fs
  | .hd, fs => noFields (.hd l) fs
  | .rm, fs => noFields (.rm l) fs
  | .dr, fs => oneDec (.dr l) fs
  | .ro, [h, f] => do pure (.ro l (← decF h) (← decF f))
  | .ro, _ => none
  | .zc, fs => parseZc l fs
  | .zx, fs => oneDec (.zx l) fs
  | .hw, fs => oneDec (.hw l) fs
  | .hj, fs => oneDec (.hj l) fs
  | .pt, h :: bs => do pure (.pt l (← decF h) (← allF byteFieldF bs))
  | .pt, [] => none
  | .hs, fs => oneDec (.hs l) fs
  | .zs, fs => oneDec (.zs l) fs
  | .rt, fs => oneDec (.rt l) fs
  | .eo, fs => noFields (.eo l) fs
  | .er, fs => noFields (.er l none) fs
  | .mq, fs => oneDec (.mq l) fs
  | .mc, fs => oneDec (.mc l) fs
  | .mo, [j, o] => do pure (.mo l (← decF j) (← dashKwF maintTab o))
  | .mo, _ => none
  | .tc, fs => oneDec (.tc l) fs
  | .mr, fs => oneDec (.mr l) fs
  | .isol, [j] => (decF j).map fun j => .isol l j none
  | .isol, [j, w] => if w = "FORCE".toList then (decF j).map fun j => .isol l j (some (.is ())) else none
  | .isol, _ => none
  | .iu, fs => oneDec (.iu l) fs
  | .es, fs => parseEs l fs
  | .auth, fs => noFields (.auth l) fs
  | .ka, fs => noFields (.ka l) fs
  | .lm, fs => parseLm l fs
  | .wa, fs => parseWa l fs
  | .lc, fs => noFields (.lc l) fs
  | .rs, fs => noFields (.rs l) fs
  | .ru, fs => noFields (.ru l) fs

/-- The verb of a command that is a record. -/
def verbOf : Instr → Option Verb
  | .dc .. => some .dc | .dx .. => some .dx | .pb .. => some .pb | .pd .. => some .pd | .pe .. => some .pe | .px .. => some .px
  | .pr .. => some .pr | .ts .. => some .ts | .sv .. => some .sv | .mk .. => some .mk | .mx .. => some .mx | .ar .. => some .ar
  | .sp .. => some .sp | .dp .. => some .dp | .ac .. => some .ac | .rj .. => some .rj | .bc .. => some .bc | .bs .. => some .bs
  | .bm .. => some .bm | .ul .. => some .ul | .ds .. => some .ds | .op .. => some .op | .cl .. => some .cl | .hd .. => some .hd
  | .rm .. => some .rm | .dr .. => some .dr | .ro .. => some .ro | .zc .. => some .zc | .zx .. => some .zx | .hw .. => some .hw
  | .hj .. => some .hj | .pt .. => some .pt | .hs .. => some .hs | .zs .. => some .zs | .rt .. => some .rt | .eo .. => some .eo
  | .er .. => some .er | .mq .. => some .mq | .mc .. => some .mc | .mo .. => some .mo | .tc .. => some .tc | .mr .. => some .mr
  | .isol .. => some .isol | .iu .. => some .iu | .es .. => some .es | .auth .. => some .auth | .ka .. => some .ka | .lm .. => some .lm
  | .wa .. => some .wa | .lc .. => some .lc | .rs .. => some .rs | .ru .. => some .ru
  | .rangingSample .. => none | .silenceExpiry .. => none | .targetLoss => none | .doorGoodReply .. => none | .doorMiss .. => none
  | .warningExpiry .. => none | .maxHoldExpiry .. => none | .pauseExpiry .. => none | .openingTimeout .. => none
  | .closingTimeout .. => none | .lockTimerExpiry .. => none | .testOpenTimeout .. => none | .dwellExpiry .. => none
  | .testCloseTimeout .. => none | .testLockExpiry .. => none | .frameSlot => none | .headGoodReply .. => none | .headMiss => none
  | .frameAgeExpiry .. => none | .ptReply .. => none | .ptTimeout => none | .keyInputChange .. => none | .esrInputChange .. => none
  | .esrQualificationExpiry => none | .supervisionExpiry => none | .characterReceived .. => none | .partialLineTimeout .. => none
  | .lineSent .. => none | .powerOn .. => none | .resetPinAssert => none | .resetPinRelease => none | .scriptLine => none
  | .powerLoss => none

/-- The keyword checks that the form of a line makes (R173): TS and SV refuse a name UNKNOWN; WA, IS and ES refuse a word SYNTAX. -/
def formReason : Instr → Option Reason
  | .ts _ .unknown _ => some .unknown
  | .sv _ .unknown => some .unknown
  | .wa _ .unknown => some .badForm
  | .isol _ _ (some .unknown) => some .badForm
  | .es _ (some .unknown) _ => some .badForm
  | .es _ none (some _) => some .badForm
  | _ => none

/-- A record command as a completed line: refused by form, or a record (R173). -/
def lineOf (v : Verb) (i : Instr) : Parsed :=
  match formReason i with
  | some why => .bad v.text why
  | none => .record i

/-- How an unknown verb is written in its reply: two capital letters as they are, else `--` (R173). -/
def unknownVerbF : List Char → String
  | [a, b] => if isUpper a && isUpper b then String.ofList [a, b] else "--"
  | _ => "--"

/-- The verb: the first run of characters up to the first space or the end of the line. -/
def verbPart (cs : List Char) : List Char := cs.takeWhile (· != ' ')

/-- A completed line of a link, read (R173). -/
def parseLine (l : Link) (cs : List Char) : Parsed :=
  match allVerbs.find? (fun v => v.text.toList == verbPart cs) with
  | none => .bad (unknownVerbF (verbPart cs)) .unknown
  | some v =>
    match splitFields cs with
    | [] => .bad v.text .badForm
    | _ :: fs =>
      if cs.all isPrintable && fs.all (fun f => !f.isEmpty) then
        match parseBody l v fs with
        | none => .bad v.text .badForm
        | some i => lineOf v i
      else .bad v.text .badForm

end Sys2Proof.Machine
end

