-- ==== Sys2Proof/Machine/Links.lean ====
section
/-! DEFINITION. The link ports (10): watches, records of the ports themselves, the taking of lines, the characters of a line, and the end of every event. -/

namespace Sys2Proof.Machine

/-! Full status of watched objects (R180). -/

/-- A timer that runs, with its remaining time. -/
def timerF (name : String) : Option Nat → List String
  | none => []
  | some n => [name, numF n]

/-- The sequencer timers of a door that run: none in HELD (R101), and the warning timer only while no zone holds it (R92). -/
def Door.runningF (d : Door) : List String :=
  if d.state == .held then []
  else
    (if d.warnHeld then [] else timerF "WARN" d.warn) ++ timerF "MAXHOLD" d.maxHold ++ timerF "PAUSE" d.pause ++
    timerF "TIMEOUT" d.timeout ++ timerF "LOCK" d.lock

/-- The full status of a door (R85); its words and their order are the model's choice (log 13). -/
def Door.fullF (l : Link) (d : Door) : List String :=
  d.dsF l ++ (match d.heldFrom with | some st => ["FROM", st.text] | none => []) ++ d.runningF ++
  (match d.test with | some t => timerF "PHASE" (some t.timer) ++ timerF "TESTLOCK" t.lock | none => []) ++
  timerF "SINCE" d.lockedSince ++ ["OPENS", numF d.opens, "OBSTACLES", numF d.obstacles] ++
  (match d.lastTest with
   | some r => ["TEST", r.result.text, optF r.openTime, optF r.closeTime, numF r.peak]
   | none => ["TEST", "-"])

/-- The full status of an object as link l sees it (R180). -/
def State.fullF (l : Link) (s : State) : WatchObj → List String
  | .door i => (s.door i).fullF l
  | .zone z => (match s.zone z with | some x => x.zsF s.gapDepth | none => [])
  | .head h => (s.head h).hsF
  | .berth => s.bsF
  | .secure => s.sec.fullF

/-- A WATCH report queued on every link that watches an object: its entry has been replaced (R180). -/
def touchPort (o : WatchObj) (s : State) (l : Link) (p : Port) : Port :=
  if p.watch == some o then p.accept (watchReport o (s.fullF l o)) else p

def touchWatch (o : WatchObj) (s : State) : State :=
  s.setPorts ⟨touchPort o s .train s.ports.train, touchPort o s .station s.ports.station, touchPort o s .panel s.ports.panel⟩

/-- The slot emptied where it holds a removed object, after a last WATCH report (R180; its one word is log 13). -/
def Port.unwatch (o : WatchObj) (p : Port) : Port :=
  if p.watch == some o then { p.accept (watchReport o ["REMOVED"]) with watch := none } else p

def dropWatch (o : WatchObj) (s : State) : State := s.setPorts (s.ports.map (Port.unwatch o))

/-- What a taken record does to the watches of an entry that it replaces or removes (R180). -/
def watchEntry (i : Instr) (s : State) : State :=
  match i with
  | .dc _ j .. => match ix? 32 j with | some i => touchWatch (.door i) s | none => s
  | .zc _ z .. => match ix? 48 z with | some z => touchWatch (.zone z) s | none => s
  | .dx _ j => match ix? 32 j with | some i => dropWatch (.door i) s | none => s
  | .zx _ z => match ix? 48 z with | some z => dropWatch (.zone z) s | none => s
  | _ => s

/-! Records of the ports (R158, R177, R180, R183, R189). -/

/-- ES [D or Z] [position] (R158, R159). -/
def doEs (l : Link) (list : Option (Kw EsList)) (pos : Option Int) (s : State) : Res :=
  match list with
  | none => .ok s s.sec.summary
  | some .unknown => .no .badForm
  | some (.is .doors) =>
    match (s.port l).listCur.read .doors s.sec.doors.length pos with
    | none => .no .range
    | some (st, again, c) =>
      .ok (s.setPort l { s.port l with listCur := c })
        (restartF again ++ s.sec.summary ++ ((itemsAt s.sec.doors st).map blockDoorF).flatten)
  | some (.is .zones) =>
    match (s.port l).listCur.read .zones s.sec.zones.length pos with
    | none => .no .range
    | some (st, again, c) =>
      .ok (s.setPort l { s.port l with listCur := c })
        (restartF again ++ s.sec.summary ++ ((itemsAt s.sec.zones st).map blockZoneF).flatten)

/-- One field of LM: the setting it leaves, none for RANGE. -/
def lmField (cur : Bool) : Option (Kw Bool) → Option Bool
  | none => some cur
  | some (.is b) => some b
  | some .unknown => none

/-- LM s a t i (R177). -/
def doLm (l : Link) (safety secure state info : Option (Kw Bool)) (s : State) : Res :=
  let p := s.port l
  match lmField true safety, lmField p.mask.secure secure, lmField p.mask.state state, lmField p.mask.info info with
  | some true, some a, some t, some i =>
    let m : ClassMask := ⟨a, t, i⟩
    .ok (s.setPort l { p with mask := m, queue := p.queue.filter fun r => m.admits r.kind.cls })
      ["YES", yesNoF a, yesNoF t, yesNoF i]
  | _, _, _, _ => .no .range

/-- The object that a WA names, or the reason of its refusal (R180). -/
def State.watchTarget (s : State) : WatchArg → Except Reason (Option WatchObj)
  | .door j => match ix? 32 j with
    | none => .error .range
    | some i => if (s.door i).configured then .ok (some (.door i)) else .error .notFound
  | .zone z => match ix? 48 z with
    | none => .error .range
    | some z => if (s.zone z).isSome then .ok (some (.zone z)) else .error .notFound
  | .head h => match ix? 12 h with
    | none => .error .range
    | some h => .ok (some (.head h))
  | .berth => .ok (some .berth)
  | .secure => .ok (some .secure)
  | .none => .ok none

/-- WA object [index] (R180). -/
def doWa (l : Link) (o : Kw WatchArg) (s : State) : Res :=
  match o with
  | .unknown => .no .badForm
  | .is a =>
    match s.watchTarget a with
    | .error why => .no why
    | .ok none =>
      let p := s.port l
      .ok (s.setPort l { p with watch := none, queue := p.queue.filter fun r => r.kind != .watch }) ["NONE"]
    | .ok (some w) =>
      let s := s.setPort l { s.port l with watch := some w }
      .ok (offerTo l (watchReport w (s.fullF l w)) s) w.textF

/-- LC (R183). -/
def doLc (l : Link) (s : State) : Res :=
  let p := s.port l
  let s := s.setPort l
    { p with queue := [], loss := false, watch := none, mapCur := ⟨0, false⟩, ulCur := ⟨0, false⟩, listCur := ⟨.none, 0, false⟩,
             buf := [], lineTimer := none, discarding := false }
  let s := abandonEdit (.link l) s
  .ok (if l == .panel then cancelAll "LC" s else s) []

/-- RS (R185): answered now; the device reset begins when its reply line has been sent. -/
def doRs (s : State) : Res := .ok s []

/-- The SCRIPT report (R187). -/
def scriptReport (fields : List String) : Report := { kind := .script, obj := none, body := fields }

/-- Some profile is EDITING or INVALID (R189). -/
def ProfileState.unfinished : ProfileState → Bool
  | .editing => true | .invalid _ => true | .empty => false | .valid => false

/-- RU (R189). -/
def doRu (s : State) : Res :=
  refuseIf (s.start.phase != .configFault) .state
    (refuseIf s.configuredDoors.isEmpty .state
      (refuseIf (allProfiles.any fun p => (s.profile p).state.unfinished) .state
        (.ok (reeval (offer (scriptReport ["RUNNING", "RU"]) { s with start := { s.start with phase := .running } })) ["RUNNING"])))

/-! Taking a record (R167, R174). -/

/-- The owning block's handling of a record that permission and phase have passed. -/
def ownBlock (src : Source) (i : Instr) (s : State) : Res :=
  match i with
  | .dc _ j near far group egress retry force blank window iso => doDc j near far group egress retry force blank window iso s
  | .dx _ j => doDx j s
  | .pb _ p len stop tstop tpartial omin dagree rep gap => doPb src p len stop tstop tpartial omin dagree rep gap s
  | .pd _ tn tf => doPd src tn tf s
  | .pe _ => doPe src s
  | .px _ p => doPx src p s
  | .pr l p pos => doPr l p pos s
  | .ts _ n v => doTs n v s
  | .sv _ n => doSv n s
  | .mk _ m x d a => doMk m x d a s
  | .mx _ m => doMx m s
  | .ar _ p t r cuts => doAr p t r cuts s
  | .sp _ r => doSp r s
  | .dp _ => doDp s
  | .ac _ => doAc s
  | .rj _ => doRj s
  | .bc _ => doBc s
  | .bs _ => doBs s
  | .bm l pos => doBm l pos s
  | .ul l pos => doUl l pos s
  | .ds l j => doDs l j s
  | .op _ g => doOp g s
  | .cl _ g => doCl g s
  | .hd _ => doHd s
  | .rm _ => doRm s
  | .dr _ j => doDr j s
  | .ro _ h f => doRo h f s
  | .zc _ z head first count kind d1 d2 thr on off en => doZc z head first count kind d1 d2 thr on off en s
  | .zx _ z => doZx z s
  | .hw _ h => doHw h s
  | .hj _ h => doHj h s
  | .pt _ h bytes => doPt h bytes s
  | .hs _ h => doHs h s
  | .zs _ z => doZs z s
  | .rt _ j => doRt j s
  | .eo _ => doEo s
  | .er _ _ => doEr s
  | .mq _ j => doMq j s
  | .mc _ j => doMc j s
  | .mo _ j o => doMo j o s
  | .tc _ j => doTc j s
  | .mr _ j => doMr j s
  | .isol _ j w => doIs j w.isSome s
  | .iu _ j => doIu j s
  | .es l list pos => doEs l list pos s
  | .auth _ => doAs s
  | .ka _ => doKa s
  | .lm l a b c d => doLm l a b c d s
  | .wa l o => doWa l o s
  | .lc l => doLc l s
  | .rs _ => doRs s
  | .ru _ => doRu s
  | _ => .ok s []

/-- A record at its owning block, with what it does to the watches (R180). -/
def runRecord (src : Source) (i : Instr) (s : State) : Res :=
  match ownBlock src i s with
  | .ok s' fs => .ok (watchEntry i s') fs
  | .no why => .no why
  | .wait s' => .wait s'

/-- The outcome of a record given to the link that sent it. -/
def answer (l : Link) (v : Verb) (s : State) (r : Res) : State :=
  match r with
  | .ok s' fs => answerOn l (.ok v fs) s'
  | .no why => answerOn l (.no v.text why) s
  | .wait s' => s'.setPort l { s'.port l with inHand := true }

/-- The reset-permit level that comes with an ER (log 6). -/
def presetPermit (i : Instr) (s : State) : State :=
  match i with
  | .er _ (some b) => { s with power := { s.power with permit := b } }
  | _ => s

/-- A record taken from a link (R167): supervision first (R164), then permission, phase, and the owning block. -/
def takeRecord (l : Link) (v : Verb) (i : Instr) (s : State) : State :=
  let s := presetPermit i s
  let s := if l == .train then superviseRecord s else s
  match gate (.link l) v s with
  | some why => answerOn l (.no v.text why) s
  | none => answer l v s (runRecord (.link l) i s)

/-- A completed line taken (R174). Its reply already has its place in line order. -/
def takeLine (l : Link) (p : Parsed) (s : State) : State :=
  match p with
  | .bad verb why => answerOn l (.no verb why) s
  | .record i =>
    match verbOf i with
    | none => s
    | some v => takeRecord l v i s

/-- A line completes (R174): taken, held behind a request in hand, or refused BUSY. -/
def completeLine (l : Link) (p : Parsed) (s : State) : State :=
  let pt := s.port l
  if pt.inHand then
    match pt.held with
    | none => s.setPort l { pt with held := some p, replies := pt.replies ++ [none] }
    | some _ => answerNow l (.no "--" .busy) s
  else takeLine l p (s.setPort l { pt with replies := pt.replies ++ [none] })

/-- The request in hand has its reply: the held line is taken (R174). -/
def takeHeld (l : Link) (s : State) : State :=
  let p := s.port l
  let s := s.setPort l { p with inHand := false, held := none }
  match p.held with
  | none => s
  | some x => takeLine l x s

/-! The end of an event (R179, R180; logs 9 and 10). -/

/-- A WATCH report where the watched object's full status has changed in the event. A slot set in the event has had its report, and a
watch on the status has one at each change of the record (R157). That a change of a zone's runs or last count alone has one too is the
model's choice (log 10). -/
def watchPort (l : Link) (s0 s : State) (p : Port) : Port :=
  match p.watch with
  | none => p
  | some .secure => p
  | some o =>
    if (s0.port l).watch == some o && s0.fullF l o != s.fullF l o then p.accept (watchReport o (s.fullF l o)) else p

/-- What every event ends with at one port: watches, then the next line where none is being sent. -/
def portEnd (l : Link) (s0 s : State) : Port := (watchPort l s0 s (s.port l)).startLine

/-- The end of an event that began in state s0. -/
def finish (s0 s : State) : State := s.setPorts ⟨portEnd .train s0 s, portEnd .station s0 s, portEnd .panel s0 s⟩

/-- An event of the part: nothing happens while it has no supply or is held in reset (log 26). The status is re-evaluated at each
change of an input; taken once more at the end it "stands on all of them" (R155). -/
def event (f : State → State) (s : State) : Host.Outcome State Fault Refusal :=
  .next (if s.alive then finish s (reeval (f s)) else s)

/-- A record delivered by a link as a completed line. -/
def deliver (l : Link) (v : Verb) (i : Instr) (s : State) : Host.Outcome State Fault Refusal :=
  event (completeLine l (lineOf v i)) s

/-! Pass-through answers (R126). -/

/-- The pass-through ends with its answer; the rotation resumes and the held line is taken (R126, R174). That a held PT then goes out
before any slot of the rotation is the model's choice (log 45). -/
def ptAnswer (r : Reply) (s : State) : State :=
  takeHeld .panel (answerOn .panel r (s.setScan { s.sense.scan with pt := none }))

/-- PT_REPLY (R126, R191). -/
def ptReplied (bs : List Byte) (s : State) : State :=
  match s.sense.scan.pt with
  | none => s
  | some pt =>
    match pt.wait with
    | none => s
    | some _ =>
      match judgeMaintReply pt.head bs with
      | none => s
      | some payload => ptAnswer (.ok .pt ([ixF pt.head, numF payload.length] ++ payload.map byteF)) s

/-- PT_TIMEOUT (R126). -/
def ptExpired (s : State) : State :=
  match s.sense.scan.pt with
  | none => s
  | some pt =>
    match pt.wait with
    | none => s
    | some _ => ptAnswer (.no "PT" .timeout) s

/-! Characters (R171, R172). -/

/-- A character that is not a CR or LF joins the line. -/
def Port.push (c : Char) (p : Port) : Port :=
  if p.discarding then p
  else if p.buf.length = Config.lineLimit then { p with buf := [], lineTimer := none, discarding := true }
  else { p with buf := p.buf ++ [c], lineTimer := if p.buf.isEmpty then some Config.lineMs else p.lineTimer }

/-- A CR ends the line (R171, R172). -/
def carriageReturn (l : Link) (s : State) : State :=
  let p := s.port l
  if p.discarding then answerNow l (.no "--" .long) (s.setPort l { p with discarding := false })
  else if p.buf.isEmpty then s
  else completeLine l (parseLine l p.buf) (s.setPort l { p with buf := [], lineTimer := none })

/-- CHARACTER_RECEIVED (R171). A character with a framing error is outside the printable set (log 16). -/
def charTaken (l : Link) (c : Byte) (framing : Bool) (s : State) : State :=
  if framing then s.setPort l ((s.port l).push (Char.ofNat 0))
  else if c == 0x0A#8 then s
  else if c == 0x0D#8 then carriageReturn l s
  else s.setPort l ((s.port l).push (Char.ofNat c.toNat))

/-- PARTIAL_LINE_TIMEOUT (R172). -/
def partialExpired (l : Link) (s : State) : State :=
  let p := s.port l
  match p.lineTimer with
  | none => s
  | some _ => answerNow l (.no "--" .timeout) (s.setPort l { p with buf := [], lineTimer := none })

end Sys2Proof.Machine
end

