-- ==== Sys2Proof/Machine/StartUp.lean ====
section
/-! DEFINITION. Start-up (11): the device reset, the configuration script, the pins of supply and reset, and the end of a line sent. -/

namespace Sys2Proof.Machine

/-! Device reset (R185). -/

/-- The rate that the straps select (R184). -/
def rateOf (strap1 strap0 : Bool) : Rate :=
  match strap1, strap0 with
  | false, false => .r9600
  | false, true => .r19200
  | true, false => .r57600
  | true, true => .r115200

/-- The straps sampled (R184, R185). -/
def Power.sampled (p : Power) : Power := { p with rate := rateOf p.rateStrap1 p.rateStrap0, scriptPresent := p.scriptStrap }

/-- The start of a device reset: every block at its reset values, the straps sampled. The command queue, the serial memory, the
pins and the model's own counter are outside the reset (log 28). -/
def deviceReset (s : State) : State :=
  { State.reset with
    pending := s.pending, free := s.free, power := s.power.sampled, start := { StartUp.reset with mem := s.start.mem } }

/-- Polling, scanning and ranging start as STARTING ends (R188, R19, R61, R114). -/
def fieldStart (s : State) : State :=
  let t := s.trk
  let on (v : Sensor) : Sensor := { v with silence := some Config.silenceMs }
  beginSlot (nextPoll (s.setTrk { t with sensorA := on t.sensorA, sensorB := on t.sensorB }))

/-- The end of STARTING in a phase, with its SCRIPT report (R187, R188). -/
def endStarting (ph : Phase) (fields : List String) (s : State) : State :=
  fieldStart (reeval (offer (scriptReport fields) { s with start := { s.start with phase := ph, stopped := true } }))

/-- The key read at the end of a reset (R160, R170). -/
def readKeyAtReset (s : State) : State :=
  let k := readKey s.power.auto s.power.loc s.power.maint
  offerIf k.2 (keyFaultReport true s.power.auto s.power.loc s.power.maint)
    (s.setAuth { s.auth with key := k.1, keyFault := k.2 })

/-- The end of a device reset (R185): key read, ESR qualification started where the input is active, and CONFIG_FAULT at once where no
script is fitted (R187). -/
def endOfReset (s : State) : State :=
  let s := readKeyAtReset s
  let s := s.setRel { s.rel with esrTimer := if s.power.esr then some Config.esrMs else none }
  if s.power.scriptPresent then s else endStarting .configFault ["CONFIG_FAULT", "0", "ABSENT"] s

/-- A whole device reset; it ends at once unless the RESET pin holds it or there is no supply (R185). -/
def resetDevice (s : State) : State :=
  let s := deviceReset s
  if s.alive then endOfReset s else s

/-- POWER_ON (R185). -/
def powerUp (rs1 rs0 script : Bool) (s : State) : State :=
  resetDevice { s with power := { s.power with on := true, rateStrap1 := rs1, rateStrap0 := rs0, scriptStrap := script } }

/-- POWER_LOSS (R156); that nothing the part holds outlives its supply is the model's choice (log 44). -/
def powerDown (s : State) : State := deviceReset { s with power := { s.power with on := false } }

/-- RESET_PIN_ASSERT (R185): the part is held in reset. -/
def pinAssert (s : State) : State := deviceReset { s with power := { s.power with resetPin := true } }

/-- RESET_PIN_RELEASE (R185): the reset ends. A release of a pin that is not asserted is no event. -/
def pinRelease (s : State) : State :=
  if s.power.resetPin then
    let s := { s with power := { s.power with resetPin := false } }
    if s.power.on then endOfReset s else s
  else s

/-- LINE_SENT (R179, R185): the line ends, and the reply to RS begins the device reset. -/
def lineEnded (l : Link) (s : State) : State :=
  match (s.port l).sending with
  | none => s
  | some x =>
    match x with
    | .reply (.ok .rs _) => resetDevice s
    | _ => s.setPort l { s.port l with sending := none }

/-! The script (R186, R187). -/

/-- What the loader meets as it reads on from an address. -/
inductive ScriptRead where
  | line (cs : List Char) (next : Nat)
  | clean (next : Nat)
  | long (next : Nat)
  | broken (next : Nat)
  deriving DecidableEq, Repr

/-- Reading from address `pos` with `left` addresses to go and the characters of a line read so far (R186). `next` is the address of
the next byte when the reading stops. That a 121st character at the last address is LONG is the model's choice (log 47). -/
def readScript (m : List Host.Cell) : Nat → Nat → List Char → ScriptRead
  | 0, pos, acc => if acc.isEmpty then .clean pos else .broken pos
  | left + 1, pos, acc =>
    let b := memRead m pos
    if b == 0x0A#8 then readScript m left (pos + 1) acc
    else if b == 0x0D#8 then (if acc.isEmpty then .clean (pos + 1) else .line acc (pos + 1))
    else if b == 0xFF#8 then (if acc.isEmpty then .clean (pos + 1) else .broken (pos + 1))
    else if acc.length = Config.lineLimit then .long (pos + 1)
    else readScript m left (pos + 1) (acc ++ [Char.ofNat b.toNat])

/-- The script stops at a refusal under a line number (R187). -/
def scriptFails (line : Nat) (why : Reason) (s : State) : State :=
  endStarting .configFault ["CONFIG_FAULT", numF line, why.text]
    (abandonEdit .script { s with start := { s.start with line := line } })

/-- The clean end, found under a line number after `done` executed lines (R187). -/
def scriptEnds (found done : Nat) (s : State) : State :=
  if (s.ownsEdit .script).isSome then scriptFails found .state s
  else endStarting .running ["RUNNING", numF done] s

/-- A record of the script taken as a request of the script source (R167, R186): its refusal, if it is one. -/
def scriptTake (p : Parsed) (s : State) : Except Reason State :=
  match p with
  | .bad _ why => .error why
  | .record i =>
    match verbOf i with
    | none => .error .badForm
    | some v =>
      match gate .script v s with
      | some why => .error why
      | none =>
        match runRecord .script i s with
        | .ok s' _ => .ok s'
        | .no why => .error why
        | .wait s' => .ok s'

/-- One line of the script, and the clean end where it was the last the memory can hold (R186). -/
def scriptLineTaken (cs : List Char) (s : State) : State :=
  let n := s.start.line + 1
  match scriptTake (parseLine .station cs) s with
  | .error why => scriptFails n why s
  | .ok s' =>
    let s := { s' with start := { s'.start with line := n } }
    if s.start.pos = Config.scriptSize then scriptEnds n n s else s

/-- The script position behind the bytes read. -/
def State.setPos (n : Nat) (s : State) : State := { s with start := { s.start with pos := n } }

/-- SCRIPT_LINE (R186): the loader reads on. Nothing once the script has stopped, or where none is fitted. -/
def scriptStep (s : State) : State :=
  if s.start.phase != .starting || s.start.stopped || !s.power.scriptPresent then s
  else
    match readScript s.start.mem (Config.scriptSize - s.start.pos) s.start.pos [] with
    | .clean next => scriptEnds (s.start.line + 1) s.start.line (s.setPos next)
    | .long next => scriptFails (s.start.line + 1) .long (s.setPos next)
    | .broken next => scriptFails (s.start.line + 1) .badForm (s.setPos next)
    | .line cs next => scriptLineTaken cs (s.setPos next)

/-! Pins that are followed with no supply too. -/

/-- KEY_INPUT_CHANGE (R160): levels that do not change are no event. -/
def keyInput (auto loc maint : Bool) (s : State) : State :=
  if s.power.auto == auto && s.power.loc == loc && s.power.maint == maint then s else keyChanged auto loc maint s

end Sys2Proof.Machine
end

