-- ==== Sys2Proof/Machine/Time.lean ====
section
/-! DEFINITION. Time on an empty queue (log 1): which timers have expired, and what a millisecond does to every running timer. -/

namespace Sys2Proof.Machine

/-- A timer that has run to its end. -/
def isDue (t : Option Nat) : Bool := t == some 0

/-- The timer commands of one door that have fallen due (R84, R145). A door in HELD is frozen (R101). -/
def Door.due (n : Nat) (d : Door) : List Instr :=
  (if d.state == .warning && isDue d.maxHold then [.maxHoldExpiry n] else []) ++
  (if d.state == .warning && !d.warnHeld && isDue d.warn then [.warningExpiry n] else []) ++
  (if d.state == .paused && isDue d.pause then [.pauseExpiry n] else []) ++
  (if (d.state == .opening || d.state == .reopening) && isDue d.timeout then [.openingTimeout n] else []) ++
  (if d.state == .closing && isDue d.timeout then [.closingTimeout n] else []) ++
  (if d.state == .closing && isDue d.lock then [.lockTimerExpiry n] else []) ++
  (match d.test with
   | none => []
   | some t =>
     (if d.testPhase == .opening && t.timer == 0 then [.testOpenTimeout n] else []) ++
     (if d.testPhase == .dwell && t.timer == 0 then [.dwellExpiry n] else []) ++
     (if d.testPhase == .closing && t.timer == 0 then [.testCloseTimeout n] else []) ++
     (if d.testPhase == .closing && isDue t.lock then [.testLockExpiry n] else []))

/-- The frame age of a head has reached 500 ms (R113). -/
def Head.due (n : Nat) (x : Head) : List Instr :=
  match x.age with
  | none => []
  | some a => if Config.staleMs ≤ a && !x.stale then [.frameAgeExpiry n] else []

/-- The sensor bus (R108, R112, R126). -/
def State.busDue (s : State) : List Instr :=
  let sc := s.sense.scan
  let wants := s.start.phase != .starting && (s.anyVisited || sc.pt.isSome)
  (match sc.pt with
   | some pt => if isDue pt.wait then [.ptTimeout] else []
   | none => []) ++
  (match sc.slot with
   | some sl =>
     (if sl.left ≤ Config.slotMs - Config.replyMs && sl.reply != .done then [.headMiss] else []) ++
     (if sl.left == 0 && s.start.phase != .starting then [.frameSlot] else [])
   | none =>
     match sc.pt with
     | some pt => if pt.wait.isNone && wants then [.frameSlot] else []
     | none => if wants then [.frameSlot] else [])

/-- Every command whose timer has run out, in a fixed order. Nothing falls due without supply or in reset. -/
def State.due (s : State) : List Instr :=
  if !s.alive then []
  else
    (allDoors.map fun i => (s.door i).due (i.val + 1)).flatten ++
    (if isDue s.trk.sensorA.silence then [.silenceExpiry .a] else []) ++
    (if isDue s.trk.sensorB.silence then [.silenceExpiry .b] else []) ++
    (if isDue s.trk.loss then [.targetLoss] else []) ++
    (if isDue s.rel.esrTimer then [.esrQualificationExpiry] else []) ++
    (if isDue s.auth.supv then [.supervisionExpiry] else []) ++
    (if isDue s.ports.train.lineTimer then [.partialLineTimeout .train] else []) ++
    (if isDue s.ports.station.lineTimer then [.partialLineTimeout .station] else []) ++
    (if isDue s.ports.panel.lineTimer then [.partialLineTimeout .panel] else []) ++
    (allHeads.map fun h => (s.head h).due (h.val + 1)).flatten ++
    s.busDue ++
    (match s.bus.poll with | some p => if p.window == 0 then [.doorMiss .missing] else [] | none => [])

/-! One millisecond. -/

/-- A running timer loses a millisecond. -/
def down (t : Option Nat) : Option Nat := t.map (· - 1)

/-- An age gains a millisecond. -/
def up (t : Option Nat) : Option Nat := t.map (· + 1)

/-- A test context after a millisecond (R145). -/
def TestCtx.tick (t : TestCtx) : TestCtx := { t with timer := t.timer - 1, elapsed := t.elapsed + 1, lock := down t.lock }

/-- A door after a millisecond: a HELD door's timers stand (R101), a held warning timer stands (R92). -/
def Door.tick (d : Door) : Door :=
  let run := d.state != .held
  { d with
    warn := if run && !d.warnHeld then down d.warn else d.warn
    maxHold := if run then down d.maxHold else d.maxHold
    pause := if run then down d.pause else d.pause
    timeout := if run then down d.timeout else d.timeout
    lock := if run then down d.lock else d.lock
    lockedSince := up d.lockedSince
    test := d.test.map TestCtx.tick }

/-- A sensor after a millisecond: a sample that has waited longer than its gap for its next byte is broken off (R192). -/
def Sensor.tick (v : Sensor) : Sensor :=
  { v with silence := down v.silence, part := if v.gap == 0 then [] else v.part, gap := v.gap - 1 }

/-- A head after a millisecond. -/
def Head.tick (x : Head) : Head := { x with age := up x.age }

/-- The scanner after a millisecond. -/
def Scan.tick (sc : Scan) : Scan :=
  { sc with
    slot := sc.slot.map fun sl => { sl with left := sl.left - 1 }
    pt := sc.pt.map fun p => { p with wait := down p.wait } }

/-- A port after a millisecond. -/
def Port.tick (p : Port) : Port := { p with lineTimer := down p.lineTimer }

/-- The poll in flight after a millisecond: four quarters of its window (log 32). -/
def Poll.tick (p : Poll) : Poll := { p with window := p.window - 4 }

/-- One millisecond passes (log 1). -/
def tick (s : State) : State :=
  if s.alive then
    { s with
      doors := s.doors.map Door.tick
      trk := { s.trk with sensorA := s.trk.sensorA.tick, sensorB := s.trk.sensorB.tick, loss := down s.trk.loss }
      rel := { s.rel with esrTimer := down s.rel.esrTimer }
      auth := { s.auth with supv := down s.auth.supv }
      ports := s.ports.map Port.tick
      sense := { s.sense with heads := s.sense.heads.map Head.tick, scan := s.sense.scan.tick }
      bus := { s.bus with poll := s.bus.poll.map Poll.tick } }
  else s

end Sys2Proof.Machine
end

