-- ==== Sys2Proof/Machine/Records.lean ====
section
/-! DEFINITION. The meaning of each record of the links: a completed line of its link, taken, held or refused as R167 and R174 state, and done by its owning block. -/

namespace Sys2Proof.Machine

/-- DC (R2 to R4). -/
def execDc (l : Link) (j : Int) (near far group : Option Int) (egress : Option (Kw Bool)) (retry force blank window : Option Int) (iso : Option (Kw Bool)) (s : State) : Host.Outcome State Fault Refusal :=
  deliver l .dc (.dc l j near far group egress retry force blank window iso) s

/-- DX (R5). -/
def execDx (l : Link) (j : Int) (s : State) : Host.Outcome State Fault Refusal :=
  deliver l .dx (.dx l j) s

/-- PB (R9). -/
def execPb (l : Link) (p : Int) (len stop tstop tpartial omin dagree : Option Int) (rep : Option (Kw Bool)) (gap : Option Int) (s : State) : Host.Outcome State Fault Refusal :=
  deliver l .pb (.pb l p len stop tstop tpartial omin dagree rep gap) s

/-- PD (R11). -/
def execPd (l : Link) (tn tf : Option Int) (s : State) : Host.Outcome State Fault Refusal :=
  deliver l .pd (.pd l tn tf) s

/-- PE (R12). -/
def execPe (l : Link) (s : State) : Host.Outcome State Fault Refusal :=
  deliver l .pe (.pe l) s

/-- PX (R13). -/
def execPx (l : Link) (p : Int) (s : State) : Host.Outcome State Fault Refusal :=
  deliver l .px (.px l p) s

/-- PR (R14). -/
def execPr (l : Link) (p : Int) (pos : Option Int) (s : State) : Host.Outcome State Fault Refusal :=
  deliver l .pr (.pr l p pos) s

/-- TS (R15, R16). -/
def execTs (l : Link) (name : Kw Setting) (value : Option Int) (s : State) : Host.Outcome State Fault Refusal :=
  deliver l .ts (.ts l name value) s

/-- SV (R17). -/
def execSv (l : Link) (name : Kw Setting) (s : State) : Host.Outcome State Fault Refusal :=
  deliver l .sv (.sv l name) s

/-- MK (R22). -/
def execMk (l : Link) (m : Int) (x : Option Int) (dir : Kw MarkDir) (action : Kw MarkAction) (s : State) : Host.Outcome State Fault Refusal :=
  deliver l .mk (.mk l m x dir action) s

/-- MX (R22). -/
def execMx (l : Link) (m : Int) (s : State) : Host.Outcome State Fault Refusal :=
  deliver l .mx (.mx l m) s

/-- AR (R28). -/
def execAr (l : Link) (p : Int) (t r : Option Int) (cuts : List Int) (s : State) : Host.Outcome State Fault Refusal :=
  deliver l .ar (.ar l p t r cuts) s

/-- SP (R30). -/
def execSp (l : Link) (r : Int) (s : State) : Host.Outcome State Fault Refusal :=
  deliver l .sp (.sp l r) s

/-- DP (R36). -/
def execDp (l : Link) (s : State) : Host.Outcome State Fault Refusal :=
  deliver l .dp (.dp l) s

/-- AC (R37). -/
def execAc (l : Link) (s : State) : Host.Outcome State Fault Refusal :=
  deliver l .ac (.ac l) s

/-- RJ (R37). -/
def execRj (l : Link) (s : State) : Host.Outcome State Fault Refusal :=
  deliver l .rj (.rj l) s

/-- BC (R38). -/
def execBc (l : Link) (s : State) : Host.Outcome State Fault Refusal :=
  deliver l .bc (.bc l) s

/-- BS (R40). -/
def execBs (l : Link) (s : State) : Host.Outcome State Fault Refusal :=
  deliver l .bs (.bs l) s

/-- BM (R59). -/
def execBm (l : Link) (pos : Option Int) (s : State) : Host.Outcome State Fault Refusal :=
  deliver l .bm (.bm l pos) s

/-- UL (R60). -/
def execUl (l : Link) (pos : Option Int) (s : State) : Host.Outcome State Fault Refusal :=
  deliver l .ul (.ul l pos) s

/-- DS (R73). -/
def execDs (l : Link) (j : Int) (s : State) : Host.Outcome State Fault Refusal :=
  deliver l .ds (.ds l j) s

/-- OP (R86, R87). -/
def execOp (l : Link) (g : Int) (s : State) : Host.Outcome State Fault Refusal :=
  deliver l .op (.op l g) s

/-- CL (R90, R91). -/
def execCl (l : Link) (g : Int) (s : State) : Host.Outcome State Fault Refusal :=
  deliver l .cl (.cl l g) s

/-- HD (R100). -/
def execHd (l : Link) (s : State) : Host.Outcome State Fault Refusal :=
  deliver l .hd (.hd l) s

/-- RM (R102). -/
def execRm (l : Link) (s : State) : Host.Outcome State Fault Refusal :=
  deliver l .rm (.rm l) s

/-- DR (R107). -/
def execDr (l : Link) (j : Int) (s : State) : Host.Outcome State Fault Refusal :=
  deliver l .dr (.dr l j) s

/-- RO (R115). -/
def execRo (l : Link) (h f : Int) (s : State) : Host.Outcome State Fault Refusal :=
  deliver l .ro (.ro l h f) s

/-- ZC (R118, R119). -/
def execZc (l : Link) (z : Int) (head first count : Option Int) (kind : Option (Kw ZoneKind)) (d1 d2 thr on off : Option Int) (en : Option (Kw Bool)) (s : State) : Host.Outcome State Fault Refusal :=
  deliver l .zc (.zc l z head first count kind d1 d2 thr on off en) s

/-- ZX (R119). -/
def execZx (l : Link) (z : Int) (s : State) : Host.Outcome State Fault Refusal :=
  deliver l .zx (.zx l z) s

/-- HW (R124). -/
def execHw (l : Link) (h : Int) (s : State) : Host.Outcome State Fault Refusal :=
  deliver l .hw (.hw l h) s

/-- HJ (R125). -/
def execHj (l : Link) (h : Int) (s : State) : Host.Outcome State Fault Refusal :=
  deliver l .hj (.hj l h) s

/-- PT (R126). -/
def execPt (l : Link) (h : Int) (bytes : List Byte) (s : State) : Host.Outcome State Fault Refusal :=
  deliver l .pt (.pt l h bytes) s

/-- HS (R128). -/
def execHs (l : Link) (h : Int) (s : State) : Host.Outcome State Fault Refusal :=
  deliver l .hs (.hs l h) s

/-- ZS (R128). -/
def execZs (l : Link) (z : Int) (s : State) : Host.Outcome State Fault Refusal :=
  deliver l .zs (.zs l z) s

/-- RT (R134). -/
def execRt (l : Link) (j : Int) (s : State) : Host.Outcome State Fault Refusal :=
  deliver l .rt (.rt l j) s

/-- EO (R136). -/
def execEo (l : Link) (s : State) : Host.Outcome State Fault Refusal :=
  deliver l .eo (.eo l) s

/-- ER (R140). -/
def execEr (l : Link) (permit : Option Bool) (s : State) : Host.Outcome State Fault Refusal :=
  deliver l .er (.er l permit) s

/-- MQ (R141). -/
def execMq (l : Link) (j : Int) (s : State) : Host.Outcome State Fault Refusal :=
  deliver l .mq (.mq l j) s

/-- MC (R143). -/
def execMc (l : Link) (j : Int) (s : State) : Host.Outcome State Fault Refusal :=
  deliver l .mc (.mc l j) s

/-- MO (R144). -/
def execMo (l : Link) (j : Int) (order : Kw MaintOrder) (s : State) : Host.Outcome State Fault Refusal :=
  deliver l .mo (.mo l j order) s

/-- TC (R145). -/
def execTc (l : Link) (j : Int) (s : State) : Host.Outcome State Fault Refusal :=
  deliver l .tc (.tc l j) s

/-- MR (R148). -/
def execMr (l : Link) (j : Int) (s : State) : Host.Outcome State Fault Refusal :=
  deliver l .mr (.mr l j) s

/-- IS (R149). -/
def execIsol (l : Link) (j : Int) (word : Option (Kw Unit)) (s : State) : Host.Outcome State Fault Refusal :=
  deliver l .isol (.isol l j word) s

/-- IU (R150). -/
def execIu (l : Link) (j : Int) (s : State) : Host.Outcome State Fault Refusal :=
  deliver l .iu (.iu l j) s

/-- ES (R158). -/
def execEs (l : Link) (list : Option (Kw EsList)) (pos : Option Int) (s : State) : Host.Outcome State Fault Refusal :=
  deliver l .es (.es l list pos) s

/-- AS (R169). -/
def execAuth (l : Link) (s : State) : Host.Outcome State Fault Refusal :=
  deliver l .auth (.auth l) s

/-- KA (R164). -/
def execKa (l : Link) (s : State) : Host.Outcome State Fault Refusal :=
  deliver l .ka (.ka l) s

/-- LM (R177). -/
def execLm (l : Link) (safety secure state info : Option (Kw Bool)) (s : State) : Host.Outcome State Fault Refusal :=
  deliver l .lm (.lm l safety secure state info) s

/-- WA (R180). -/
def execWa (l : Link) (obj : Kw WatchArg) (s : State) : Host.Outcome State Fault Refusal :=
  deliver l .wa (.wa l obj) s

/-- LC (R183). -/
def execLc (l : Link) (s : State) : Host.Outcome State Fault Refusal :=
  deliver l .lc (.lc l) s

/-- RS (R185). -/
def execRs (l : Link) (s : State) : Host.Outcome State Fault Refusal :=
  deliver l .rs (.rs l) s

/-- RU (R189). -/
def execRu (l : Link) (s : State) : Host.Outcome State Fault Refusal :=
  deliver l .ru (.ru l) s

end Sys2Proof.Machine
end

