-- ==== Sys2Proof/Machine/Events.lean ====
section
/-! DEFINITION. The meaning of each event of the field side, of the part's own timers and of its pins. Levels of the input pins are followed with no supply and in reset too (log 26). -/

namespace Sys2Proof.Machine

/-- RANGING_SAMPLE (R18, R192). -/
def execRangingSample (x : SensorId) (bytes : List Byte) (s : State) : Host.Outcome State Fault Refusal :=
  event (rangingTaken x bytes) s

/-- SILENCE_EXPIRY (R19). -/
def execSilenceExpiry (x : SensorId) (s : State) : Host.Outcome State Fault Refusal :=
  event (silenceExpired x) s

/-- TARGET_LOSS (R33). -/
def execTargetLoss (s : State) : Host.Outcome State Fault Refusal :=
  event targetLost s

/-- DOOR_GOOD_REPLY (R66, R68: the frame is judged against the poll in flight). -/
def execDoorGoodReply (bytes : List Byte) (s : State) : Host.Outcome State Fault Refusal :=
  event (endPoll (.frame bytes)) s

/-- DOOR_MISS (R66, R67). -/
def execDoorMiss (how : PollEnd) (s : State) : Host.Outcome State Fault Refusal :=
  event (endPoll how) s

/-- WARNING_EXPIRY (R92). -/
def execWarningExpiry (j : Nat) (s : State) : Host.Outcome State Fault Refusal :=
  event (warningExpired j) s

/-- MAX_HOLD_EXPIRY (R92). -/
def execMaxHoldExpiry (j : Nat) (s : State) : Host.Outcome State Fault Refusal :=
  event (maxHoldExpired j) s

/-- PAUSE_EXPIRY (R95). -/
def execPauseExpiry (j : Nat) (s : State) : Host.Outcome State Fault Refusal :=
  event (pauseExpired j) s

/-- OPENING_TIMEOUT (R88). -/
def execOpeningTimeout (j : Nat) (s : State) : Host.Outcome State Fault Refusal :=
  event (openingExpired j) s

/-- CLOSING_TIMEOUT (R93). -/
def execClosingTimeout (j : Nat) (s : State) : Host.Outcome State Fault Refusal :=
  event (closingExpired j) s

/-- LOCK_TIMER_EXPIRY (R93). -/
def execLockTimerExpiry (j : Nat) (s : State) : Host.Outcome State Fault Refusal :=
  event (lockExpired j) s

/-- TEST_OPEN_TIMEOUT (R146). -/
def execTestOpenTimeout (j : Nat) (s : State) : Host.Outcome State Fault Refusal :=
  event (testOpenExpiry j) s

/-- DWELL_EXPIRY (R145). -/
def execDwellExpiry (j : Nat) (s : State) : Host.Outcome State Fault Refusal :=
  event (dwellExpired j) s

/-- TEST_CLOSE_TIMEOUT (R146). -/
def execTestCloseTimeout (j : Nat) (s : State) : Host.Outcome State Fault Refusal :=
  event (testCloseExpiry j) s

/-- TEST_LOCK_EXPIRY (R146). -/
def execTestLockExpiry (j : Nat) (s : State) : Host.Outcome State Fault Refusal :=
  event (testLockExpired j) s

/-- FRAME_SLOT (R108, R114). -/
def execFrameSlot (s : State) : Host.Outcome State Fault Refusal :=
  event frameSlotTaken s

/-- HEAD_GOOD_REPLY (R111). -/
def execHeadGoodReply (bytes : List Byte) (s : State) : Host.Outcome State Fault Refusal :=
  event (headReply bytes) s

/-- HEAD_MISS (R112). -/
def execHeadMiss (s : State) : Host.Outcome State Fault Refusal :=
  event takeMiss s

/-- FRAME_AGE_EXPIRY (R113). -/
def execFrameAgeExpiry (h : Nat) (s : State) : Host.Outcome State Fault Refusal :=
  event (frameAgeExpired h) s

/-- PT_REPLY (R126). -/
def execPtReply (bytes : List Byte) (s : State) : Host.Outcome State Fault Refusal :=
  event (ptReplied bytes) s

/-- PT_TIMEOUT (R126). -/
def execPtTimeout (s : State) : Host.Outcome State Fault Refusal :=
  event ptExpired s

/-- KEY_INPUT_CHANGE (R160). -/
def execKeyInputChange (auto loc maint : Bool) (s : State) : Host.Outcome State Fault Refusal :=
  if s.alive then event (keyInput auto loc maint) s
  else .next { s with power := { s.power with auto := auto, loc := loc, maint := maint } }

/-- ESR_INPUT_CHANGE (R135). -/
def execEsrInputChange (levels : ReleaseInputs) (s : State) : Host.Outcome State Fault Refusal :=
  if s.alive then event (esrChange levels) s else .next { s with power := s.power.releaseLevels levels }

/-- ESR_QUALIFICATION_EXPIRY (R135). -/
def execEsrQualificationExpiry (s : State) : Host.Outcome State Fault Refusal :=
  event esrExpiry s

/-- SUPERVISION_EXPIRY (R165). -/
def execSupervisionExpiry (s : State) : Host.Outcome State Fault Refusal :=
  event supervisionExpired s

/-- CHARACTER_RECEIVED (R171). -/
def execCharacterReceived (l : Link) (c : Byte) (framing : Bool) (s : State) : Host.Outcome State Fault Refusal :=
  event (charTaken l c framing) s

/-- PARTIAL_LINE_TIMEOUT (R172). -/
def execPartialLineTimeout (l : Link) (s : State) : Host.Outcome State Fault Refusal :=
  event (partialExpired l) s

/-- LINE_SENT (R179). -/
def execLineSent (l : Link) (s : State) : Host.Outcome State Fault Refusal :=
  event (lineEnded l) s

/-- POWER_ON (R185: the supply comes up, whatever stood before). -/
def execPowerOn (rateStrap1 rateStrap0 scriptStrap : Bool) (s : State) : Host.Outcome State Fault Refusal :=
  let t := powerUp rateStrap1 rateStrap0 scriptStrap s
  .next (finish t (reeval t))

/-- RESET_PIN_ASSERT (R185). -/
def execResetPinAssert (s : State) : Host.Outcome State Fault Refusal :=
  .next (pinAssert s)

/-- RESET_PIN_RELEASE (R185). -/
def execResetPinRelease (s : State) : Host.Outcome State Fault Refusal :=
  let t := pinRelease s
  .next (finish t (reeval t))

/-- SCRIPT_LINE (R186). -/
def execScriptLine (s : State) : Host.Outcome State Fault Refusal :=
  event scriptStep s

/-- POWER_LOSS (R156). -/
def execPowerLoss (s : State) : Host.Outcome State Fault Refusal :=
  .next (powerDown s)

end Sys2Proof.Machine
end

