-- ==== Sys2Proof/Machine/Dispatch.lean ====
section
/-! DEFINITION. exec: one arm for each command, each one direct call of its meaning. -/

namespace Sys2Proof.Machine

/-- The effect of a command on everything but the queue. -/
def exec (i : Instr) (s : State) : Host.Outcome State Fault Refusal :=
  match i with
  | .dc l j near far group egress retry force blank window iso => Sys2Proof.Machine.execDc l j near far group egress retry force blank window iso s
  | .dx l j => Sys2Proof.Machine.execDx l j s
  | .pb l p len stop tstop tpartial omin dagree rep gap => Sys2Proof.Machine.execPb l p len stop tstop tpartial omin dagree rep gap s
  | .pd l tn tf => Sys2Proof.Machine.execPd l tn tf s
  | .pe l => Sys2Proof.Machine.execPe l s
  | .px l p => Sys2Proof.Machine.execPx l p s
  | .pr l p pos => Sys2Proof.Machine.execPr l p pos s
  | .ts l name value => Sys2Proof.Machine.execTs l name value s
  | .sv l name => Sys2Proof.Machine.execSv l name s
  | .mk l m x dir action => Sys2Proof.Machine.execMk l m x dir action s
  | .mx l m => Sys2Proof.Machine.execMx l m s
  | .ar l p t r cuts => Sys2Proof.Machine.execAr l p t r cuts s
  | .sp l r => Sys2Proof.Machine.execSp l r s
  | .dp l => Sys2Proof.Machine.execDp l s
  | .ac l => Sys2Proof.Machine.execAc l s
  | .rj l => Sys2Proof.Machine.execRj l s
  | .bc l => Sys2Proof.Machine.execBc l s
  | .bs l => Sys2Proof.Machine.execBs l s
  | .bm l pos => Sys2Proof.Machine.execBm l pos s
  | .ul l pos => Sys2Proof.Machine.execUl l pos s
  | .ds l j => Sys2Proof.Machine.execDs l j s
  | .op l g => Sys2Proof.Machine.execOp l g s
  | .cl l g => Sys2Proof.Machine.execCl l g s
  | .hd l => Sys2Proof.Machine.execHd l s
  | .rm l => Sys2Proof.Machine.execRm l s
  | .dr l j => Sys2Proof.Machine.execDr l j s
  | .ro l h f => Sys2Proof.Machine.execRo l h f s
  | .zc l z head first count kind d1 d2 thr on off en => Sys2Proof.Machine.execZc l z head first count kind d1 d2 thr on off en s
  | .zx l z => Sys2Proof.Machine.execZx l z s
  | .hw l h => Sys2Proof.Machine.execHw l h s
  | .hj l h => Sys2Proof.Machine.execHj l h s
  | .pt l h bytes => Sys2Proof.Machine.execPt l h bytes s
  | .hs l h => Sys2Proof.Machine.execHs l h s
  | .zs l z => Sys2Proof.Machine.execZs l z s
  | .rt l j => Sys2Proof.Machine.execRt l j s
  | .eo l => Sys2Proof.Machine.execEo l s
  | .er l permit => Sys2Proof.Machine.execEr l permit s
  | .mq l j => Sys2Proof.Machine.execMq l j s
  | .mc l j => Sys2Proof.Machine.execMc l j s
  | .mo l j order => Sys2Proof.Machine.execMo l j order s
  | .tc l j => Sys2Proof.Machine.execTc l j s
  | .mr l j => Sys2Proof.Machine.execMr l j s
  | .isol l j word => Sys2Proof.Machine.execIsol l j word s
  | .iu l j => Sys2Proof.Machine.execIu l j s
  | .es l list pos => Sys2Proof.Machine.execEs l list pos s
  | .auth l => Sys2Proof.Machine.execAuth l s
  | .ka l => Sys2Proof.Machine.execKa l s
  | .lm l safety secure state info => Sys2Proof.Machine.execLm l safety secure state info s
  | .wa l obj => Sys2Proof.Machine.execWa l obj s
  | .lc l => Sys2Proof.Machine.execLc l s
  | .rs l => Sys2Proof.Machine.execRs l s
  | .ru l => Sys2Proof.Machine.execRu l s
  | .rangingSample x bytes => Sys2Proof.Machine.execRangingSample x bytes s
  | .silenceExpiry x => Sys2Proof.Machine.execSilenceExpiry x s
  | .targetLoss => Sys2Proof.Machine.execTargetLoss s
  | .doorGoodReply bytes => Sys2Proof.Machine.execDoorGoodReply bytes s
  | .doorMiss how => Sys2Proof.Machine.execDoorMiss how s
  | .warningExpiry j => Sys2Proof.Machine.execWarningExpiry j s
  | .maxHoldExpiry j => Sys2Proof.Machine.execMaxHoldExpiry j s
  | .pauseExpiry j => Sys2Proof.Machine.execPauseExpiry j s
  | .openingTimeout j => Sys2Proof.Machine.execOpeningTimeout j s
  | .closingTimeout j => Sys2Proof.Machine.execClosingTimeout j s
  | .lockTimerExpiry j => Sys2Proof.Machine.execLockTimerExpiry j s
  | .testOpenTimeout j => Sys2Proof.Machine.execTestOpenTimeout j s
  | .dwellExpiry j => Sys2Proof.Machine.execDwellExpiry j s
  | .testCloseTimeout j => Sys2Proof.Machine.execTestCloseTimeout j s
  | .testLockExpiry j => Sys2Proof.Machine.execTestLockExpiry j s
  | .frameSlot => Sys2Proof.Machine.execFrameSlot s
  | .headGoodReply bytes => Sys2Proof.Machine.execHeadGoodReply bytes s
  | .headMiss => Sys2Proof.Machine.execHeadMiss s
  | .frameAgeExpiry h => Sys2Proof.Machine.execFrameAgeExpiry h s
  | .ptReply bytes => Sys2Proof.Machine.execPtReply bytes s
  | .ptTimeout => Sys2Proof.Machine.execPtTimeout s
  | .keyInputChange auto loc maint => Sys2Proof.Machine.execKeyInputChange auto loc maint s
  | .esrInputChange levels => Sys2Proof.Machine.execEsrInputChange levels s
  | .esrQualificationExpiry => Sys2Proof.Machine.execEsrQualificationExpiry s
  | .supervisionExpiry => Sys2Proof.Machine.execSupervisionExpiry s
  | .characterReceived l c framing => Sys2Proof.Machine.execCharacterReceived l c framing s
  | .partialLineTimeout l => Sys2Proof.Machine.execPartialLineTimeout l s
  | .lineSent l => Sys2Proof.Machine.execLineSent l s
  | .powerOn rateStrap1 rateStrap0 scriptStrap => Sys2Proof.Machine.execPowerOn rateStrap1 rateStrap0 scriptStrap s
  | .resetPinAssert => Sys2Proof.Machine.execResetPinAssert s
  | .resetPinRelease => Sys2Proof.Machine.execResetPinRelease s
  | .scriptLine => Sys2Proof.Machine.execScriptLine s
  | .powerLoss => Sys2Proof.Machine.execPowerLoss s

end Sys2Proof.Machine
end

