-- ==== Sys2Proof/Machine/Step.lean ====
section
/-! DEFINITION. step: the command at the front of the queue, or on an empty queue a timer that has expired, or a millisecond (log 1). -/

namespace Sys2Proof.Machine

/-- The expiry that is taken among several that have fallen due (log 3): any of them, as Config.pickFirst numbers it. -/
def chooseDue (n : Nat) (c : Instr) (cs : List Instr) : Instr :=
  match cs with
  | [] => c
  | _ :: _ => (c :: cs).getD (Config.pickFirst n % (cs.length + 1)) c

/-- One step of the part. -/
def step (s : State) : Host.Outcome State Fault Refusal :=
  match s.pending with
  | c :: rest => exec c { s with pending := rest }
  | [] =>
    match s.due with
    | [] => .next (tick s)
    | c :: cs => exec (chooseDue s.free c cs) { s with free := if cs.isEmpty then s.free else s.free + 1 }

/-- s with the command that a table word spells at the front of its queue: the table gives no row bits, so s unchanged (log 5). -/
def State.withFetchWord (s : State) (nbits w : Nat) : State :=
  match decodeTableWord nbits w with
  | some i => { s with pending := i :: s.pending }
  | none => s

end Sys2Proof.Machine
end

