-- ==== Sys2Proof/Safety.lean ====
section
/-! DEFINITION. What holds of the part in every state that a run reaches, and the predicates that the statements are made of. -/

namespace Sys2Proof.Machine

/-! Laws of the part. -/

/-- The status record is the one that its inputs give, and the SECURE output follows its flag (R155, R156). -/
def State.secureCurrent (s : State) : Prop := s.sec = s.evalSecure

/-- R130: a door is in EMERGENCY custody exactly when its emergency reason set is non-empty. -/
def Door.custodyLaw (d : Door) : Prop := d.custody = .emergency ↔ (d.rHandle = true ∨ d.rPlatform = true)

/-- R130 at every door; R142: the pending maintenance list names each door once, and only configured doors in SEQUENCER custody;
R136: PLATFORM stands in a reason set only while platform release is active. -/
def State.releaseLaw (s : State) : Prop :=
  (∀ i : DoorIx, (s.door i).custodyLaw) ∧
  (s.rel.pendingMaint.Nodup ∧ ∀ i ∈ s.rel.pendingMaint, (s.door i).configured = true ∧ (s.door i).custody = .sequencer) ∧
  (∀ i : DoorIx, (s.door i).rPlatform = true → s.rel.active = true)

/-- R137: while platform release is active in a berth state that lets doors be taken, no map door is left in SEQUENCER custody. -/
def State.takenLaw (s : State) : Prop :=
  s.rel.active = true → s.berth.state.takesRelease = true →
    ∀ i : DoorIx, s.berth.isMapDoor i = true → (s.door i).custody ≠ .sequencer

/-- R142: no pending request is left whose grant conditions (R141) hold. -/
def State.grantLaw (s : State) : Prop := ∀ i ∈ s.rel.pendingMaint, s.grantable i = false

/-- R130: a test context is held exactly while the test phase is other than NONE, and then in MAINT custody. -/
def State.testLaw (s : State) : Prop :=
  ∀ i : DoorIx, ((s.door i).testPhase = .none ↔ (s.door i).test = none) ∧ ((s.door i).testPhase ≠ .none → (s.door i).custody = .maint)

/-- R96: the retry count is at most the retry limit plus one. -/
def State.retryLaw (s : State) : Prop := ∀ (i : DoorIx) (e : DoorEntry), (s.door i).entry = some e → (s.door i).retry ≤ e.retry + 1

/-- R178: at most 64 entries, and never two of one state kind and object. -/
def Port.queueLaw (p : Port) : Prop :=
  p.queue.length ≤ Config.queueLimit ∧ p.queue.Pairwise fun a b => a.kind.isState = true → Report.same a b = false

/-- R178 at every port. -/
def State.queueLaw (s : State) : Prop := ∀ l : Link, (s.port l).queueLaw

/-- R15, R16: every setting within its range, MAXHOLD never below WARN. -/
def State.settingsLaw (s : State) : Prop :=
  ∀ n : Setting, (settingRange s.settings n).1 ≤ s.settings.get n ∧ s.settings.get n ≤ (settingRange s.settings n).2

/-- R56: the map is non-empty exactly in the map-holding states; R51: it names each door once, in ascending order. -/
def State.mapLaw (s : State) : Prop :=
  (s.berth.state.holdsMap = true ↔ s.berth.map ≠ []) ∧ s.berth.map.Pairwise fun a b => a.j < b.j

/-- R35, R36: a MOVED_OPEN berth has a map door that is not CLOSED_LOCKED. -/
def State.movedOpenLaw (s : State) : Prop := s.berth.state = .movedOpen → s.mapClosed = false

/-- R8: a referenced profile is VALID; R10: EDITING is exactly the profile of the one open edit; R7, R12: what a profile holds. -/
def State.storeLaw (s : State) : Prop :=
  (∀ p : ProfileIx, s.referenced p = true → (s.profile p).state = .valid) ∧
  (∀ p : ProfileIx, (s.profile p).state = .editing ↔ ∃ e, s.cfg.edit = some e ∧ e.profile = p) ∧
  (∀ p : ProfileIx, (s.profile p).state = .empty ∨ ∃ f, (s.profile p).fields = some f ∧ f.tstop ≤ f.tpartial ∧
    ((s.profile p).state = .valid → validate f (s.profile p).doors = none))

/-- R37: in ALIGNED without the accepted mark the stop is within Tstop on two sensors; in ALIGNED with it and in PARTIAL_HELD it is
within Tpartial. -/
def State.alignLaw (s : State) : Prop :=
  s.berth.state = .aligned ∨ s.berth.state = .partialHeld →
    ∃ p f est, s.berth.profile = some p ∧ (s.profile p).fields = some f ∧ s.berth.est = some est ∧
      est.e = (est.h : Int) - f.stop ∧ est.e.natAbs ≤ f.tpartial ∧
      (s.berth.state = .aligned → s.berth.accepted = false → est.e.natAbs ≤ f.tstop ∧ est.conf = .dual)

/-- R163: supervision is armed while authority is AUTO and the berth is not EMPTY; LATE only while armed; LOST only with the latch
(R165, R163); R161: the latch is set only while the key reads AUTO; R185: held in reset the part keeps neither latch nor berth, and
that it keeps neither with no supply is the model's choice (log 44). -/
def State.supervisionLaw (s : State) : Prop :=
  s.auth.supv.isSome = s.supvArmed ∧ (s.auth.stage = .late → s.auth.supv.isSome = true) ∧
  (s.auth.stage = .lost → s.auth.fallback = true) ∧ (s.auth.fallback = true → s.auth.key = .auto) ∧
  (s.alive = false → s.auth.fallback = false ∧ s.berth.state = .empty)

/-- R120: a zone is CLEAR or OCCUPIED only while it is enabled and its head is none of withdrawn, skipped, FAULT, NO_REPLY or stale, and
NOT_SERVED only under a skipped head. R116, R117: a head is skipped only while a map stands, and then serves no map door.
R108: a slot in progress that still takes a reply is of a visited head. -/
def State.zoneLaw (s : State) : Prop :=
  (∀ sl, s.sense.scan.slot = some sl → sl.live = true → (s.head sl.head).visited = true) ∧
  (∀ h : HeadIx, (s.head h).skipped = true → s.berth.state.holdsMap = true ∧ s.servesMap h = false) ∧
  ∀ (z : ZoneIx) (x : Zone), s.zone z = some x →
    (x.state = .notServed → x.cfg.en = true ∧ (s.head x.cfg.head).skipped = true) ∧
    (x.state = .clear ∨ x.state = .occupied →
      x.cfg.en = true ∧ (s.head x.cfg.head).withdrawn = false ∧ (s.head x.cfg.head).skipped = false ∧
      (s.head x.cfg.head).stale = false ∧ (s.head x.cfg.head).state ≠ .fault ∧ (s.head x.cfg.head).state ≠ .noReply)

/-- R116, R117, R125: a head is skipped exactly while a map stands of which it serves no door. -/
def State.focusLaw (s : State) : Prop := ∀ h : HeadIx, (s.head h).skipped = (s.berth.state.holdsMap && !s.servesMap h)

/-- R92: the warning timer of a door in WARNING is held exactly while one of its holding zones is OCCUPIED or UNKNOWN. -/
def State.warningLaw (s : State) : Prop := ∀ i : DoorIx, (s.door i).state = .warning → (s.door i).warnHeld = s.warningHeld i

/-- The counters within their limits: miss counters and over-force runs (R67, R70, R109), the service record (R105), the re-berth
count (R39), standstill windows (R18), samples being received (R192), lines being assembled (R171), and the turn (R115). -/
def State.boundsLaw (s : State) : Prop :=
  (∀ i : DoorIx, (s.door i).misses ≤ 3 ∧ (s.door i).ovf ≤ 8 ∧ (s.door i).opens ≤ Config.opensLimit ∧
    (s.door i).obstacles ≤ Config.obstacleLimit) ∧
  (∀ h : HeadIx, (s.head h).misses ≤ 3 ∧ (s.head h).f ≤ 7) ∧ s.berth.reberth ≤ 15 ∧
  (∀ x : SensorId, (s.trk.sensor x).window.length ≤ 8 ∧ (s.trk.sensor x).part.length < 6) ∧ (∀ l : Link, (s.port l).buf.length ≤ Config.lineLimit) ∧
  (allHeads.map fun h => (s.head h).f).sum ≤ Config.turnSlots

/-- The serial memory keeps its canonical form (12 section 12.5). -/
def State.memLaw (s : State) : Prop := memWf s.start.mem = true

/-- The law of the status (R153). -/
def State.secureLaw (s : State) : Prop :=
  s.sec.flag = true →
    s.start.phase = .running ∧ (∃ i : DoorIx, (s.door i).configured = true) ∧
    (∀ i : DoorIx, (s.door i).configured = true → (s.door i).custody ≠ .isolated →
      (s.door i).state = .closedLocked ∧ ((s.door i).custody = .sequencer ∨ (s.door i).custody = .maint) ∧
      (s.door i).testPhase = .none) ∧
    s.rel.active = false ∧ s.berth.state ≠ .movedOpen ∧
    (∀ (z : ZoneIx) (x : Zone) (i : DoorIx), s.zone z = some x → x.cfg.kind = .gap → x.cfg.names i = true →
      s.berth.isMapDoor i = true → x.state = .clear ∨ x.state = .disabled)

/-! What the statements about one command are made of. -/

/-- An index as a record or a timer event gives it, from 1. -/
def ixNat {n : Nat} (i : Fin n) : Nat := i.val + 1
def ixInt {n : Nat} (i : Fin n) : Int := (i.val : Int) + 1

/-- The link on which a record comes; none for an event of the field side, a timer or a pin. -/
def linkOf : Instr → Option Link
  | .dc l .. => some l | .dx l .. => some l | .pb l .. => some l | .pd l .. => some l | .pe l .. => some l | .px l .. => some l
  | .pr l .. => some l | .ts l .. => some l | .sv l .. => some l | .mk l .. => some l | .mx l .. => some l | .ar l .. => some l
  | .sp l .. => some l | .dp l .. => some l | .ac l .. => some l | .rj l .. => some l | .bc l .. => some l | .bs l .. => some l
  | .bm l .. => some l | .ul l .. => some l | .ds l .. => some l | .op l .. => some l | .cl l .. => some l | .hd l .. => some l
  | .rm l .. => some l | .dr l .. => some l | .ro l .. => some l | .zc l .. => some l | .zx l .. => some l | .hw l .. => some l
  | .hj l .. => some l | .pt l .. => some l | .hs l .. => some l | .zs l .. => some l | .rt l .. => some l | .eo l .. => some l
  | .er l .. => some l | .mq l .. => some l | .mc l .. => some l | .mo l .. => some l | .tc l .. => some l | .mr l .. => some l
  | .isol l .. => some l | .iu l .. => some l | .es l .. => some l | .auth l .. => some l | .ka l .. => some l | .lm l .. => some l
  | .wa l .. => some l | .lc l .. => some l | .rs l .. => some l | .ru l .. => some l
  | _ => none

/-- A link with no line under way: nothing being sent, no reply due, no request in hand and none held behind it. -/
def Port.idle (p : Port) : Prop := p.sending = none ∧ p.replies = [] ∧ p.inHand = false ∧ p.held = none

/-- A record of verb v that completes on link l now is taken: the part runs, the link is idle, and the checks of R167 and R188 pass. -/
def State.ready (l : Link) (v : Verb) (s : State) : Prop := s.alive = true ∧ (s.port l).idle ∧ gate (.link l) v s = none

/-- The reply that a link is sending, with none behind it. -/
def State.replies (t : State) (l : Link) (r : Reply) : Prop := (t.port l).sending = some (.reply r) ∧ (t.port l).replies = []

/-- The authority unit after a record on link l: a train-link record counts for supervision (R164). -/
def State.heardAuth (l : Link) (s : State) : Auth := if l = .train then s.auth.spoken s.settings.supv else s.auth

/-- The blocks of the part, less its ports and its status. -/
inductive Block where
  | power | start | cfg | doors | trk | bus | sense | rel | auth
  deriving DecidableEq, Repr

/-- From s to t, the queue, the model's counter and every block not listed are unchanged. -/
def State.sameBut (bs : List Block) (s t : State) : Prop :=
  t.pending = s.pending ∧ t.free = s.free ∧
  (Block.power ∉ bs → t.power = s.power) ∧ (Block.start ∉ bs → t.start = s.start) ∧ (Block.cfg ∉ bs → t.cfg = s.cfg) ∧
  (Block.doors ∉ bs → t.doors = s.doors) ∧ (Block.trk ∉ bs → t.trk = s.trk) ∧ (Block.bus ∉ bs → t.bus = s.bus) ∧
  (Block.sense ∉ bs → t.sense = s.sense) ∧ (Block.rel ∉ bs → t.rel = s.rel) ∧ (Block.auth ∉ bs → t.auth = s.auth)

/-- The same from a record on link l, which the authority unit has heard. -/
def State.sameButHeard (l : Link) (bs : List Block) (s t : State) : Prop :=
  s.sameBut (.auth :: bs) t ∧ (Block.auth ∉ bs → t.auth = s.heardAuth l)

/-- What a port holds of its requests and its settings, less replies, reports and cursors. -/
def Port.inputSame (p q : Port) : Prop :=
  q.buf = p.buf ∧ q.discarding = p.discarding ∧ q.lineTimer = p.lineTimer ∧ q.inHand = p.inHand ∧ q.held = p.held ∧
  q.mask = p.mask ∧ q.watch = p.watch

/-- Every port keeps its input side and its settings. -/
def State.inputsSame (s t : State) : Prop := ∀ k : Link, (s.port k).inputSame (t.port k)

/-- The commands that may write the input side or the settings of a port. -/
def writesInputs : Instr → Bool
  | .lm .. => true | .wa .. => true | .lc .. => true | .pt .. => true | .dx .. => true | .zx .. => true
  | .ptReply .. => true | .ptTimeout => true | .characterReceived .. => true | .partialLineTimeout .. => true | .lineSent .. => true
  | .powerOn .. => true | .resetPinAssert => true | .resetPinRelease => true | .scriptLine => true | .powerLoss => true
  | _ => false

/-- Every door but those of a list is unchanged. -/
def State.otherDoors (is : List DoorIx) (s t : State) : Prop := ∀ k : DoorIx, k ∉ is → t.door k = s.door k

/-- Every head but one is unchanged. -/
def State.otherHeads (h : HeadIx) (s t : State) : Prop := ∀ k : HeadIx, k ≠ h → t.head k = s.head k

/-- The poll in flight is of door k. -/
def State.polls (t : State) (k : DoorIx) : Bool := match t.bus.poll with | some p => p.door == k | none => false

/-- The over-force run of door k, at n, once the next poll has begun: 0 where that poll is of door k and carries another drive order
than its poll before, as d holds it (R70). -/
def State.runAfterPoll (t : State) (k : DoorIx) (d : Door) (n : Nat) : Nat :=
  if t.polls k ∧ d.lastOrder ≠ none ∧ d.lastOrder ≠ some (t.orderFor k).drive then 0 else n

/-- From s to t door k has at most had its poll begun (R61, R70). -/
def State.pollFrame (t s : State) (k : DoorIx) : Prop :=
  t.door k =
    if t.polls k then
      { s.door k with lastOrder := some (t.orderFor k).drive, ovf := t.runAfterPoll k (s.door k) (s.door k).ovf }
    else s.door k

/-- The conditions that a good reply with this status makes live at door d, its over-force run then standing at n (R68, R71). -/
def Status.raises (st : Status) (n : Nat) (d : Door) : Conds :=
  { comms := false, handle := st.handle && !d.live.handle, supply := st.supplyLow && !d.live.supply
    drive := st.code != 0 && !d.live.drive
    obstacle := (match d.entry with | some e => decide (e.blank ≤ n) | none => false) && !d.live.obstacle, lockFail := false }

/-- From s to t, the warning timer of every door in WARNING follows its holding zones: a new hold sets it to WARN, and it goes on from
where it stands when the last hold ends; where one hold replaces another in the event it may be set anew (R92). -/
def State.warningsFollow (s t : State) : Prop :=
  ∀ i : DoorIx, (s.door i).state = .warning → (s.door i).warnHeld = s.warningHeld i →
    (t.door i).state = .warning ∧ (t.door i).maxHold = (s.door i).maxHold ∧ (t.door i).warnHeld = t.warningHeld i ∧
    (t.warningHeld i = false → (t.door i).warn = (s.door i).warn) ∧
    (t.warningHeld i = true → s.warningHeld i = false → (t.door i).warn = some s.settings.warn) ∧
    (t.warningHeld i = true → s.warningHeld i = true →
      (t.door i).warn = (s.door i).warn ∨ (t.door i).warn = some s.settings.warn)

/-- The state of door i, its fault reason and its custody are as given. -/
def State.doorIs (t : State) (i : DoorIx) (st : DoorState) (f : Option FaultReason) (c : Custody) : Prop :=
  (t.door i).state = st ∧ (t.door i).fault = f ∧ (t.door i).custody = c

/-- From s to t, where the map clears with release active: every OPENING door with {PLATFORM} alone is OPEN, without its timeout, and
keeps its custody and reason set (R139). -/
def State.platformOpened (s t : State) : Prop :=
  s.rel.active = true → ∀ i : DoorIx, (s.door i).custody = .emergency → (s.door i).rPlatform = true → (s.door i).rHandle = false →
    (s.door i).state = .opening →
    t.doorIs i .opened none .emergency ∧ (t.door i).timeout = none ∧ (t.door i).rPlatform = true ∧ (t.door i).rHandle = false

/-- The part with its pass-through answered and the panel link idle: where the line held behind that request is taken (R174). -/
def State.ptAnswered (s : State) : State :=
  (s.setScan { s.sense.scan with pt := none }).setPort .panel
    { s.ports.panel with sending := none, replies := [], inHand := false, held := none }

/-- A run of alignment ends in this state, with this fault or out-of-berth reason and this estimate (R55). -/
def Berth.ends (b : Berth) (st : BerthState) (f : Option AlignFault) (o : Option OobReason) (est : Option Estimate) : Prop :=
  b.state = st ∧ b.fault = f ∧ b.oob = o ∧ b.est = est

/-- The fields of a berth record that a run of alignment does not name (R55). -/
def Berth.sameTrain (b c : Berth) : Prop :=
  b.profile = c.profile ∧ b.trainId = c.trainId ∧ b.r = c.r ∧ b.cuts = c.cuts ∧ b.reberth = c.reberth ∧ b.egressUsed = c.egressUsed

/-- No sequencer timer of a door runs and no held-from state is held. -/
def Door.stopped (d : Door) : Prop :=
  d.warn = none ∧ d.maxHold = none ∧ d.pause = none ∧ d.timeout = none ∧ d.lock = none ∧ d.heldFrom = none

/-- A report waits on link k, or is the line being sent there. -/
def State.reported (t : State) (k : Link) (r : Report) : Prop := r ∈ (t.port k).queue ∨ (t.port k).sending = some (.report r)

/-- A port with a full queue that has lost a report: its flag says so, or the LOSS line being sent (R178, R179). -/
def Port.lossy (p : Port) : Prop := Config.queueLimit ≤ p.queue.length ∧ (p.loss = true ∨ p.sending = some .loss)

/-- From s to t, link k is told report r where its mask enables the class; a full queue that loses the report says so (R177, R178). -/
def State.tellsOn (s t : State) (k : Link) (r : Report) : Prop :=
  (s.port k).mask.admits r.kind.cls = true → t.reported k r ∨ (t.port k).lossy

/-- From s to t, every link is told report r. -/
def State.tells (s t : State) (r : Report) : Prop := ∀ k : Link, s.tellsOn t k r

/-- A read of a list of n items through the list cursor begins at item st, with the mark RESTART where `again` says so: at the position
given, else at the cursor, which stands at 0 on a list that it has not stood on (R159, R181). -/
def ListCursor.startsAt (c : ListCursor) (on : ListName) (n : Nat) (pos : Option Int) (st : Nat) (again : Bool) : Prop :=
  again = (c.restart || c.on != on) ∧
  ((pos = none ∧ st = if c.on = on then c.pos else 0) ∨ (pos = some (st : Int) ∧ st ≤ n))

/-- The tracker with an OK sample of distance d taken at sensor x (R18). -/
def State.sensed (x : SensorId) (d : Nat) (s : State) : Tracker :=
  s.trk.setSensor x ((s.trk.sensor x).sampled s.settings.band (.ok d))

/-- A sensor contributed to a head estimate (R46). -/
def Estimate.uses (e : Estimate) : SensorId → Bool
  | .a => e.fromA
  | .b => e.fromB

/-- Distance d at sensor x differs by more than MOVE from the head position, to which the sensor contributed (R34). -/
def State.awayFromHead (s : State) (x : SensorId) (d : Nat) : Bool :=
  match s.berth.est with
  | some e => e.uses x && decide (s.settings.move < ((d : Int) - e.h).natAbs)
  | none => false

/-- Distance d at sensor x differs by more than MOVE from the sensor's reference value (R34). -/
def State.awayFromRef (s : State) (x : SensorId) (d : Nat) : Bool :=
  match (s.trk.sensor x).ref with
  | some r => decide (s.settings.move < ((d : Int) - r).natAbs)
  | none => false

/-- Every mark has action REPORT, but for the one named. -/
def State.reportMarks (s : State) (but : Option MarkIx) : Bool :=
  allMarks.all fun m => some m == but || (match s.mark m with | some k => k.action == .report | none => true)

/-- Everything that the start of a device reset clears, at its reset value (R185); pins, straps, the script position and the ports
are stated by themselves. -/
def State.cleared (t : State) : Prop :=
  t.cfg = State.reset.cfg ∧ t.doors = State.reset.doors ∧ t.rel.esrLatch = false ∧ t.rel.trainLatch = false ∧
  t.rel.pendingMaint = [] ∧ t.trk.berth = Berth.reset ∧ t.trk.expected = none ∧ t.sense.zones = State.reset.sense.zones ∧
  t.sense.heads = State.reset.sense.heads ∧ t.auth.fallback = false ∧ t.auth.hold = false ∧ t.auth.stage = .normal ∧
  t.auth.supv = none ∧ t.sec.flag = false ∧ t.sec.output = false

/-- A link has no request, reply or line of its own left, every class enabled, and no watch (R184). -/
def Port.fresh (p : Port) : Prop :=
  p.buf = [] ∧ p.discarding = false ∧ p.lineTimer = none ∧ p.inHand = false ∧ p.held = none ∧ p.replies = [] ∧
  p.mask = ⟨true, true, true⟩ ∧ p.loss = false ∧ p.watch = none ∧ p.mapCur = ⟨0, false⟩ ∧ p.ulCur = ⟨0, false⟩ ∧
  p.listCur = ⟨.none, 0, false⟩

end Sys2Proof.Machine
end

