-- ==== Sys2Proof/Certificates/Slice0/Obligations.lean ====
section
/-! DEFINITION. The statements about the part, one definition each. A statement about a record takes an idle link and the checks of R167 and R188 as passed (State.ready); its reply is the line that the link then sends. -/

open Sys2Proof Sys2Proof.Machine

/-! The step. -/

/-- A step takes the command at the front of the queue. -/
def Obligations.StepTakesFront : Prop :=
  ∀ (c : Instr) (rest : List Instr) (s : State), step { s with pending := c :: rest } = exec c { s with pending := rest }

/-- On an empty queue a step takes one of the timers that have run out, and with none a millisecond passes: each running timer loses it
and each age gains it, but for the timers of a door in HELD (R101) and a held warning timer (R92). That time passes so is the model's
choice (logs 1, 3 and 32). -/
def Obligations.StepOnEmptyQueue : Prop :=
  (∀ s : State, s.pending = [] →
    (s.due = [] → step s = .next (tick s)) ∧
    (∀ c cs, s.due = c :: cs →
      ∃ d ∈ s.due, step s = exec d { s with free := if cs.isEmpty then s.free else s.free + 1 })) ∧
  (∀ s : State, s.alive = false → tick s = s) ∧
  (∀ s : State, s.alive = true →
    (∀ i : DoorIx,
      ((s.door i).state ≠ .held → (tick s).door i = { s.door i with
        warn := if (s.door i).warnHeld then (s.door i).warn else (s.door i).warn.map (· - 1)
        maxHold := (s.door i).maxHold.map (· - 1), pause := (s.door i).pause.map (· - 1), timeout := (s.door i).timeout.map (· - 1)
        lock := (s.door i).lock.map (· - 1), lockedSince := (s.door i).lockedSince.map (· + 1)
        test := (s.door i).test.map fun c => { c with timer := c.timer - 1, elapsed := c.elapsed + 1, lock := c.lock.map (· - 1) } }) ∧
      ((s.door i).state = .held → ((tick s).door i).warn = (s.door i).warn ∧ ((tick s).door i).maxHold = (s.door i).maxHold ∧
        ((tick s).door i).pause = (s.door i).pause ∧ ((tick s).door i).timeout = (s.door i).timeout ∧
        ((tick s).door i).lock = (s.door i).lock ∧ ((tick s).door i).state = .held ∧
        ((tick s).door i).heldFrom = (s.door i).heldFrom)) ∧
    (∀ x : SensorId, ((tick s).trk.sensor x).silence = (s.trk.sensor x).silence.map (· - 1) ∧
      ((tick s).trk.sensor x).state = (s.trk.sensor x).state ∧ ((tick s).trk.sensor x).last = (s.trk.sensor x).last) ∧
    (tick s).trk.loss = s.trk.loss.map (· - 1) ∧ (tick s).berth = s.berth ∧
    (tick s).rel = { s.rel with esrTimer := s.rel.esrTimer.map (· - 1) } ∧
    (tick s).auth = { s.auth with supv := s.auth.supv.map (· - 1) } ∧
    (∀ l : Link, (tick s).port l = { s.port l with lineTimer := (s.port l).lineTimer.map (· - 1) }) ∧
    (∀ h : HeadIx, (tick s).head h = { s.head h with age := (s.head h).age.map (· + 1) }) ∧
    (tick s).sense.zones = s.sense.zones ∧
    (tick s).sense.scan.slot = (s.sense.scan.slot.map fun x => { x with left := x.left - 1 }) ∧
    (tick s).sense.scan.pt = (s.sense.scan.pt.map fun x => { x with wait := x.wait.map (· - 1) }) ∧
    (tick s).bus = { s.bus with poll := s.bus.poll.map fun x => { x with window := x.window - 4 } } ∧
    (tick s).sec = s.sec ∧ s.sameBut [.doors, .trk, .bus, .sense, .rel, .auth] (tick s))

/-- Every command in every state answers a next state that keeps the queue, the model's counter and the serial memory. That a part with
no supply or held in reset answers too (log 26), and that a device reset leaves the three as they are (log 28), is the model's choice. -/
def Obligations.ExecAnswersNext : Prop :=
  ∀ (c : Instr) (s : State), ∃ t, exec c s = .next t ∧ t.pending = s.pending ∧ t.free = s.free ∧ t.start.mem = s.start.mem

/-- While no request is in hand, no command but those of the ports, a removal, a reset and the script writes the input side, the mask
(R177) or the watch (R180) of a port. That a record row leaves the line being assembled as it is, is the model's choice (log 6). -/
def Obligations.PortInputsKept : Prop :=
  ∀ (c : Instr) (s t : State), writesInputs c = false → (∀ l : Link, (s.port l).inHand = false) →
    exec c s = .next t → s.inputsSame t

/-! Laws of the part. -/

/-- The laws hold at reset. -/
def Obligations.LawsAtReset : Prop :=
  State.reset.secureCurrent ∧ State.reset.releaseLaw ∧ State.reset.testLaw ∧ State.reset.retryLaw ∧ State.reset.queueLaw ∧
  State.reset.settingsLaw ∧ State.reset.mapLaw ∧ State.reset.storeLaw ∧ State.reset.alignLaw ∧ State.reset.supervisionLaw ∧
  State.reset.zoneLaw ∧ State.reset.boundsLaw ∧ State.reset.memLaw ∧ State.reset.takenLaw ∧ State.reset.grantLaw ∧
  State.reset.movedOpenLaw ∧ State.reset.focusLaw ∧ State.reset.warningLaw

/-- R155, R156: after every step the status stands on every input, and the output follows the flag. -/
def Obligations.StatusStandsOnItsInputs : Prop := ∀ s t : State, s.secureCurrent → step s = .next t → t.secureCurrent

/-- R130, R136, R142: custody, reason sets and the pending maintenance list agree after every step. R137: no step leaves a map door in
SEQUENCER custody where release takes it; R141, R142: none leaves a request pending whose grant conditions hold. -/
def Obligations.CustodyLawKept : Prop :=
  ∀ s t : State, s.releaseLaw → s.testLaw → step s = .next t →
    t.releaseLaw ∧ t.testLaw ∧ (s.takenLaw → t.takenLaw) ∧ (s.grantLaw → t.grantLaw)

/-- R96, R15, R16, R18, R39, R67, R70, R105, R109, R115, R171, R192: retry counts, settings and counters stay within their limits, and the serial
memory in its canonical form. -/
def Obligations.LimitsKept : Prop :=
  ∀ s t : State, step s = .next t →
    (s.retryLaw → t.retryLaw) ∧ (s.settingsLaw → t.settingsLaw) ∧ (s.boundsLaw → t.boundsLaw) ∧ (s.memLaw → t.memLaw)

/-- R178: no step breaks the law of a report queue. -/
def Obligations.QueueLawKept : Prop := ∀ s t : State, s.queueLaw → step s = .next t → t.queueLaw

/-- R56, R51: the map is non-empty exactly in the map-holding states; R37: the stop error of an ALIGNED or PARTIAL_HELD berth stays
within its tolerance; R35, R36: no step leaves a berth MOVED_OPEN with every map door CLOSED_LOCKED. -/
def Obligations.BerthLawsKept : Prop :=
  ∀ s t : State, step s = .next t → (s.mapLaw → t.mapLaw) ∧ (s.storeLaw → s.alignLaw → t.alignLaw) ∧
    (s.movedOpenLaw → t.movedOpenLaw)

/-- R8, R10: referenced profiles stay VALID, and one profile at most is EDITING. -/
def Obligations.StoreLawKept : Prop := ∀ s t : State, s.storeLaw → step s = .next t → t.storeLaw

/-- R161, R163: supervision is armed exactly when it is to be, and the latch stands only with the key at AUTO. R185: a part held in reset
keeps neither the latch nor a berth; that one with no supply keeps neither is the model's choice (log 44). -/
def Obligations.SupervisionLawKept : Prop := ∀ s t : State, s.supervisionLaw → step s = .next t → t.supervisionLaw

/-- R120: zone states keep resting on the records and the heads; R116, R117, R125: after every step the skipped heads are those that serve
no door of the map that stands; R92: the warning timers held are those of the doors that a zone holds. -/
def Obligations.ZoneLawKept : Prop :=
  ∀ s t : State, step s = .next t → (s.zoneLaw → t.zoneLaw) ∧ (s.focusLaw → t.focusLaw) ∧ (s.warningLaw → t.warningLaw)

/-- R153: what SECURE says of the platform, wherever the status stands on its inputs and R116, R120 and R130 hold. -/
def Obligations.SecureLaw : Prop :=
  ∀ s : State, s.secureCurrent → s.zoneLaw → (∀ i : DoorIx, (s.door i).custodyLaw) → s.secureLaw

/-! Frames, samples and lines. -/

/-- R65, R66, R190: the frame that a module forms for a status is read as that status at its own door, as a wrong address at another,
and as a bad check with another check byte. R191, R192, R18: a head's replies and a sensor's samples are read as what their sender put
in them; a distance is clamped. -/
def Obligations.FramesRead : Prop :=
  (∀ (i k : DoorIx) (st : Status) (x : Byte), st.code < 16 → st.current < 256 →
     judgeStatus i (statusFrame i st) = .good st ∧
     (k ≠ i → judgeStatus k (statusFrame i st) = .miss .wrongAddress) ∧
     (x ≠ crc8 (statusFrame i st).dropLast → judgeStatus i ((statusFrame i st).dropLast ++ [x]) = .miss .badCheck)) ∧
  (∀ (h : HeadIx) (st : HeadStatus) (c : BitVec 64), judgeFrameReply h (frameReply h st c) = some (st, c)) ∧
  (∀ (h : HeadIx) (p : List Byte), p.length ≤ 16 → judgeMaintReply h (maintReply h p) = some p) ∧
  (∀ d : Nat, d < 16777216 → sampleOf (okSampleBytes d) = some (.ok (min d 300000))) ∧
  sampleOf (bareSampleBytes false) = some .noTarget ∧ sampleOf (bareSampleBytes true) = some .fault

/-- R75, R76, R77: the order that a poll of a door carries: by state in SEQUENCER custody, by custody else, HOLD for OPEN where the door
is neither of the map, nor in MAINT custody, nor REOPENING; and the frame it goes in (R62). R70: a poll whose order differs from that of
the door's poll before sets the over-force run to 0, and the poll changes no other door. That the reply window runs from the start of
the poll, in quarter milliseconds, is the model's choice (log 32). -/
def Obligations.OrderCarried : Prop :=
  (∀ (s : State) (i : DoorIx), s.start.phase = .running →
    ((s.door i).custody = .sequencer →
      ((s.door i).state = .unknown → s.orderFor i = ⟨.hold, .off, false⟩) ∧
      ((s.door i).state = .closedLocked → s.orderFor i = ⟨.close, .off, false⟩) ∧
      ((s.door i).state = .closedUnlocked → s.orderFor i = ⟨.hold, .off, false⟩) ∧
      ((s.door i).state = .opening → s.orderFor i = ⟨if s.berth.isMapDoor i then .opn else .hold, .steady, false⟩) ∧
      ((s.door i).state = .opened → s.orderFor i = ⟨.hold, .steady, false⟩) ∧
      ((s.door i).state = .warning → s.orderFor i = ⟨.hold, .flash, true⟩) ∧
      ((s.door i).state = .closing → s.orderFor i = ⟨.close, .flash, false⟩) ∧
      ((s.door i).state = .reopening → s.orderFor i = ⟨.opn, .steady, false⟩) ∧
      ((s.door i).state = .paused → s.orderFor i = ⟨.hold, .steady, false⟩) ∧
      ((s.door i).state = .held → s.orderFor i = ⟨.hold, .steady, false⟩) ∧
      ((s.door i).state = .released → s.orderFor i = ⟨.release, .steady, false⟩) ∧
      ((s.door i).state = .fault → s.orderFor i = ⟨.hold, .off, false⟩)) ∧
    ((s.door i).custody = .maint →
      ((s.door i).state = .unknown ∨ (s.door i).state = .fault → s.orderFor i = ⟨.hold, .off, false⟩) ∧
      ((s.door i).state ≠ .unknown → (s.door i).state ≠ .fault → s.orderFor i = ⟨maintDrive (s.door i).mOrder, .off, false⟩)) ∧
    ((s.door i).custody = .emergency →
      ((s.door i).state = .released → s.orderFor i = ⟨.release, .steady, false⟩) ∧
      ((s.door i).state = .opening → s.orderFor i = ⟨if s.berth.isMapDoor i then .opn else .hold, .steady, false⟩) ∧
      ((s.door i).state ≠ .released → (s.door i).state ≠ .opening → s.orderFor i = ⟨.hold, .steady, false⟩)) ∧
    ((s.door i).custody = .isolated → s.orderFor i = ⟨.hold, .off, false⟩)) ∧
  (∀ (s : State) (i : DoorIx), s.start.phase = .configFault → s.orderFor i = ⟨.hold, .off, false⟩) ∧
  (∀ (s : State) (i : DoorIx), (s.orderFor i).drive = .opn →
    s.start.phase = .running ∧ (s.berth.isMapDoor i = true ∨ (s.door i).custody = .maint ∨ (s.door i).state = .reopening)) ∧
  (∀ s : State, s.start.phase = .starting → (nextPoll s).bus.poll = none) ∧
  (∀ (s : State) (i : DoorIx) (e : DoorEntry) (rest : List DoorIx), s.bus.cycle = i :: rest → (s.door i).entry = some e →
    s.start.phase ≠ .starting →
    (nextPoll s).bus = ⟨rest, some ⟨i, orderFrame i e.force (s.orderFor i), 8 + e.window, false⟩⟩ ∧
    ((nextPoll s).door i).lastOrder = some (s.orderFor i).drive ∧
    (∀ o : DriveOrder, (s.door i).lastOrder = some o → o ≠ (s.orderFor i).drive → ((nextPoll s).door i).ovf = 0) ∧
    ((s.door i).lastOrder = none ∨ (s.door i).lastOrder = some (s.orderFor i).drive →
      ((nextPoll s).door i).ovf = (s.door i).ovf) ∧
    (∀ k : DoorIx, (nextPoll s).pollFrame s k) ∧ s.sameBut [.doors, .bus] (nextPoll s))

/-- R171, R173, R174: the CR of an assembled line that reads as a record does what the record does, with the line taken out of the
buffer; and some lines, read as R173 and the formats of 12 section 12.1 say. That a record row is a line that has just completed is the
model's choice (log 6), and so is which unknown keyword is refused UNKNOWN and which SYNTAX, where R173 leaves it open (log 14). -/
def Obligations.LinesRead : Prop :=
  (∀ (l : Link) (i : Instr) (s : State), s.alive = true → (s.port l).discarding = false → (s.port l).buf ≠ [] →
     parseLine l (s.port l).buf = .record i →
     exec (.characterReceived l 0x0D#8 false) s = exec i (s.setPort l { s.port l with buf := [], lineTimer := none })) ∧
  parseLine .station "DC 3 21000 22400 - - - - - - NO".toList =
    .record (.dc .station 3 (some 21000) (some 22400) none none none none none none (some (.is false))) ∧
  parseLine .train "AR 3 4471 - 2 5".toList = .record (.ar .train 3 (some 4471) none [2, 5]) ∧
  parseLine .panel "PT 4 0A FF".toList = .record (.pt .panel 4 [0x0A#8, 0xFF#8]) ∧
  parseLine .panel "IS 3 FORCE".toList = .record (.isol .panel 3 (some (.is ()))) ∧
  parseLine .station "XY 1".toList = .bad "XY" .unknown ∧ parseLine .station "op 1".toList = .bad "--" .unknown ∧
  parseLine .train "OP  1".toList = .bad "OP" .badForm ∧ parseLine .train "OP 1 ".toList = .bad "OP" .badForm ∧
  parseLine .station "TS SPEED 5".toList = .bad "TS" .unknown ∧ parseLine .station "WA LIFT 1".toList = .bad "WA" .badForm

/-- R167, R175, R188: a record that permission, phase or its own block refuses is answered with the reason, and changes nothing; a
train-link record still counts for supervision. That an ER row may carry the level of its input, which then stands, is the model's
choice (log 6). -/
def Obligations.RecordRefused : Prop :=
  (∀ (l : Link) (v : Verb) (i : Instr) (why : Reason) (s : State), linkOf i = some l → verbOf i = some v → formReason i = none →
     s.alive = true → (s.port l).idle → gate (.link l) v (presetPermit i s) = some why →
     ∃ t, exec i s = .next t ∧ t.replies l (.no v.text why) ∧ (presetPermit i s).sameButHeard l [] t ∧ s.inputsSame t) ∧
  (∀ (l : Link) (v : Verb) (i : Instr) (why : Reason) (s : State), linkOf i = some l → verbOf i = some v → formReason i = none →
    (presetPermit i s).ready l v →
    runRecord (.link l) i (if l = .train then superviseRecord (presetPermit i s) else presetPermit i s) = .no why →
    ∃ t, exec i s = .next t ∧ t.replies l (.no v.text why) ∧ (presetPermit i s).sameButHeard l [] t ∧ s.inputsSame t)

/-- R6: while the berth is not EMPTY the records that change platform geometry are refused BUSY; RO and TS are taken. -/
def Obligations.GeometryHeld : Prop :=
  ∀ (l : Link) (s : State), s.berth.state ≠ .empty →
    (s.ready l .dc → ∀ (i : DoorIx) (near far group : Option Int) (egress : Option (Kw Bool)) (retry force blank window : Option Int)
        (iso : Option (Kw Bool)),
      ∃ t, exec (.dc l (ixInt i) near far group egress retry force blank window iso) s = .next t ∧ t.replies l (.no "DC" .busy) ∧
        s.sameButHeard l [] t ∧ s.inputsSame t) ∧
    (s.ready l .dx → ∀ i : DoorIx,
      ∃ t, exec (.dx l (ixInt i)) s = .next t ∧ t.replies l (.no "DX" .busy) ∧ s.sameButHeard l [] t ∧ s.inputsSame t) ∧
    (s.ready l .zc → ∀ (z : ZoneIx) (head first count : Option Int) (kind : Option (Kw ZoneKind)) (d1 d2 thr on off : Option Int)
        (en : Option (Kw Bool)),
      ∃ t, exec (.zc l (ixInt z) head first count kind d1 d2 thr on off en) s = .next t ∧ t.replies l (.no "ZC" .busy) ∧
        s.sameButHeard l [] t ∧ s.inputsSame t) ∧
    (s.ready l .zx → ∀ z : ZoneIx,
      ∃ t, exec (.zx l (ixInt z)) s = .next t ∧ t.replies l (.no "ZX" .busy) ∧ s.sameButHeard l [] t ∧ s.inputsSame t) ∧
    (s.ready l .mk → ∀ (m : MarkIx) (x : Option Int) (d : Kw MarkDir) (a : Kw MarkAction),
      ∃ t, exec (.mk l (ixInt m) x d a) s = .next t ∧ t.replies l (.no "MK" .busy) ∧ s.sameButHeard l [] t ∧ s.inputsSame t) ∧
    (s.ready l .mx → ∀ m : MarkIx,
      ∃ t, exec (.mx l (ixInt m)) s = .next t ∧ t.replies l (.no "MX" .busy) ∧ s.sameButHeard l [] t ∧ s.inputsSame t) ∧
    (s.ready l .ro → ∀ (h : HeadIx) (f : Nat), f ≤ 7 → s.turnWith h f ≤ 48 →
      ∃ t, exec (.ro l (ixInt h) (f : Int)) s = .next t ∧ (t.head h).f = f) ∧
    (s.ready l .ts → ∀ (n : Setting) (v : Option Int),
      ∃ t fs, exec (.ts l (.is n) v) s = .next t ∧ t.replies l (.ok .ts fs))

/-! Queries. -/

/-- R17, R40, R128, R158, R164, R169: the queries that read no list answer with what they name, and change nothing. R73: DS answers with
a door's status and both sets, and clears the sending link's latched set alone. The layout of the replies is in part the model's choice
(log 13). -/
def Obligations.QueriesAnswer : Prop :=
  ∀ (l : Link) (s : State),
    (s.ready l .bs → ∃ t, exec (.bs l) s = .next t ∧ t.replies l (.ok .bs s.bsF) ∧ s.sameButHeard l [] t ∧ s.inputsSame t) ∧
    (s.ready l .auth → ∃ t, exec (.auth l) s = .next t ∧ t.replies l (.ok .auth (s.setAuth (s.heardAuth l)).asF) ∧
      s.sameButHeard l [] t ∧ s.inputsSame t) ∧
    (s.ready l .ka → ∃ t, exec (.ka l) s = .next t ∧
      t.replies l (.ok .ka [(s.heardAuth l).effective.text, (s.heardAuth l).stage.text]) ∧ s.sameButHeard l [] t ∧ s.inputsSame t) ∧
    (s.ready l .es → ∃ t, exec (.es l none none) s = .next t ∧ t.replies l (.ok .es s.sec.summary) ∧
      s.sameButHeard l [] t ∧ s.inputsSame t) ∧
    (∀ n : Setting, s.ready l .sv → ∃ t, exec (.sv l (.is n)) s = .next t ∧ t.replies l (.ok .sv (s.settings.replyF n)) ∧
      s.sameButHeard l [] t ∧ s.inputsSame t) ∧
    (∀ h : HeadIx, s.ready l .hs → ∃ t, exec (.hs l (ixInt h)) s = .next t ∧ t.replies l (.ok .hs (s.head h).hsF) ∧
      s.sameButHeard l [] t ∧ s.inputsSame t) ∧
    (∀ (z : ZoneIx) (x : Zone), s.zone z = some x → s.ready l .zs →
      ∃ t, exec (.zs l (ixInt z)) s = .next t ∧ t.replies l (.ok .zs (x.zsF s.gapDepth)) ∧ s.sameButHeard l [] t ∧ s.inputsSame t) ∧
    (∀ i : DoorIx, s.ready l .ds → (s.door i).configured = true →
      ∃ t, exec (.ds l (ixInt i)) s = .next t ∧ t.replies l (.ok .ds ((s.door i).dsF l)) ∧
        (t.door i).latched l = Conds.clear ∧ (∀ k : Link, k ≠ l → (t.door i).latched k = (s.door i).latched k) ∧
        t.door i = (s.door i).clearLatched l ∧ s.otherDoors [i] t ∧ s.sameButHeard l [.doors] t ∧ s.inputsSame t)

/-- R59, R60, R181: BM and UL read up to six items from the position given or the cursor, and leave the cursor behind them. R14, R158,
R159: PR, ES D and ES Z read through the list cursor, which starts at 0 with RESTART on a list that it has not stood on. A position
beyond the end is refused RANGE and moves no cursor; PR of an EMPTY profile answers EMPTY. -/
def Obligations.CursorReads : Prop :=
  (∀ (l : Link) (pos : Option Int) (st : Nat) (s : State),
     (s.ready l .bm → (pos = none ∧ st = (s.port l).mapCur.pos ∨ pos = some (st : Int) ∧ st ≤ s.berth.map.length) →
       ∃ t, exec (.bm l pos) s = .next t ∧
         t.replies l (.ok .bm (restartF (s.port l).mapCur.restart ++ [numF s.berth.map.length] ++
           ((s.berth.map.drop st).take 6).flatMap MapEntry.textF)) ∧
         (t.port l).mapCur = ⟨st + ((s.berth.map.drop st).take 6).length, false⟩ ∧ s.sameButHeard l [] t ∧ s.inputsSame t) ∧
     (s.ready l .ul → (pos = none ∧ st = (s.port l).ulCur.pos ∨ pos = some (st : Int) ∧ st ≤ s.berth.uncovered.length) →
       ∃ t, exec (.ul l pos) s = .next t ∧
         t.replies l (.ok .ul (restartF (s.port l).ulCur.restart ++ [numF s.berth.uncovered.length] ++
           ((s.berth.uncovered.drop st).take 6).map numF)) ∧
         (t.port l).ulCur = ⟨st + ((s.berth.uncovered.drop st).take 6).length, false⟩ ∧ s.sameButHeard l [] t ∧ s.inputsSame t)) ∧
  (∀ (l : Link) (pos : Option Int) (st : Nat) (again : Bool) (s : State),
     (∀ (p : ProfileIx) (f : ProfileFields), s.ready l .pr → (s.profile p).state ≠ .empty → (s.profile p).fields = some f →
       (s.port l).listCur.startsAt (.profile p) (s.profile p).doors.length pos st again →
       ∃ t, exec (.pr l (ixInt p) pos) s = .next t ∧
         t.replies l (.ok .pr ((s.profile p).state.fieldsF ++ f.fieldsF ++ [numF (s.profile p).doors.length] ++ restartF again ++
           (((s.profile p).doors.drop st).take 6).flatMap fun d => [numF d.tn, numF d.tf])) ∧
         (t.port l).listCur = ⟨.profile p, st + (((s.profile p).doors.drop st).take 6).length, false⟩ ∧ s.sameButHeard l [] t ∧
         s.inputsSame t) ∧
     (s.ready l .es → s.secureCurrent → (s.port l).listCur.startsAt .doors s.sec.doors.length pos st again →
       ∃ t, exec (.es l (some (.is .doors)) pos) s = .next t ∧
         t.replies l (.ok .es (restartF again ++ s.sec.summary ++ ((s.sec.doors.drop st).take 6).flatMap blockDoorF)) ∧
         (t.port l).listCur = ⟨.doors, st + ((s.sec.doors.drop st).take 6).length, false⟩ ∧ s.sameButHeard l [] t ∧ s.inputsSame t) ∧
     (s.ready l .es → s.secureCurrent → (s.port l).listCur.startsAt .zones s.sec.zones.length pos st again →
       ∃ t, exec (.es l (some (.is .zones)) pos) s = .next t ∧
         t.replies l (.ok .es (restartF again ++ s.sec.summary ++ ((s.sec.zones.drop st).take 6).flatMap blockZoneF)) ∧
         (t.port l).listCur = ⟨.zones, st + ((s.sec.zones.drop st).take 6).length, false⟩ ∧ s.sameButHeard l [] t ∧ s.inputsSame t)) ∧
  (∀ (l : Link) (x : Int) (s : State), s.secureCurrent →
     (s.ready l .bm → x < 0 ∨ (s.berth.map.length : Int) < x →
       ∃ t, exec (.bm l (some x)) s = .next t ∧ t.replies l (.no "BM" .range) ∧ (t.port l).mapCur = (s.port l).mapCur ∧
         s.sameButHeard l [] t ∧ s.inputsSame t) ∧
     (s.ready l .ul → x < 0 ∨ (s.berth.uncovered.length : Int) < x →
       ∃ t, exec (.ul l (some x)) s = .next t ∧ t.replies l (.no "UL" .range) ∧ (t.port l).ulCur = (s.port l).ulCur ∧
         s.sameButHeard l [] t ∧ s.inputsSame t) ∧
     (∀ p : ProfileIx, s.ready l .pr → (s.profile p).state ≠ .empty → x < 0 ∨ ((s.profile p).doors.length : Int) < x →
       ∃ t, exec (.pr l (ixInt p) (some x)) s = .next t ∧ t.replies l (.no "PR" .range) ∧ (t.port l).listCur = (s.port l).listCur ∧
         s.sameButHeard l [] t ∧ s.inputsSame t) ∧
     (s.ready l .es → x < 0 ∨ (s.sec.doors.length : Int) < x →
       ∃ t, exec (.es l (some (.is .doors)) (some x)) s = .next t ∧ t.replies l (.no "ES" .range) ∧
         (t.port l).listCur = (s.port l).listCur ∧ s.sameButHeard l [] t ∧ s.inputsSame t) ∧
     (s.ready l .es → x < 0 ∨ (s.sec.zones.length : Int) < x →
       ∃ t, exec (.es l (some (.is .zones)) (some x)) s = .next t ∧ t.replies l (.no "ES" .range) ∧
         (t.port l).listCur = (s.port l).listCur ∧ s.sameButHeard l [] t ∧ s.inputsSame t) ∧
     (∀ (p : ProfileIx) (pos : Option Int), s.ready l .pr → (s.profile p).state = .empty →
       ∃ t, exec (.pr l (ixInt p) pos) s = .next t ∧ t.replies l (.ok .pr ["EMPTY"]) ∧ (t.port l).listCur = (s.port l).listCur ∧
         s.sameButHeard l [] t ∧ s.inputsSame t))

/-! Reports of class SAFETY. -/

/-- R35, R67, R69, R78, R132, R136, R139, R140, R150, R160, R163, R164, R165, R187, R189: a HANDLE report at a reply and at IU, COMMS at
the third miss and at the recovery, RELEASE at EO, ESR, ER, RJ and the loss of the target, MOVED at DP and at a sample, SUPERVISION at a train-link
record, its timer and the key, KEYFAULT and SCRIPT at a change of the key, at power-on with no script fitted and at RU: every link is told
(R176, R178). The OVERRUN report stands in SampleJudged, and SCRIPT of the loader in ScriptRead. Which fields the reports carry, and in
which order, is in part the model's choice (logs 13, 17 and 43), and so is that the timers' commands act whatever time remains (log 2). -/
def Obligations.SafetyReportsQueued : Prop :=
  (∀ (p : Poll) (i : DoorIx) (e : DoorEntry) (st : Status) (s : State), s.alive = true → s.bus.poll = some p → p.discard = false →
    p.door = i → (s.door i).entry = some e → st.code < 16 → st.current < 256 →
    ∃ t, exec (.doorGoodReply (statusFrame i st)) s = .next t ∧
      (st.handle = true → (s.door i).live.handle = false → s.tells t (handleReport i (t.door i))) ∧
      ((s.door i).misses = 3 →
        (st.code ≠ 0 → s.tells t ⟨.comms, some (i.val + 1), ["RECOVERY", "FAULT", "DRIVE"]⟩) ∧
        (st.code = 0 → (s.door i).custody = .emergency → (s.door i).rHandle = true →
          s.tells t ⟨.comms, some (i.val + 1), ["RECOVERY", "RELEASED"]⟩) ∧
        (st.code = 0 → (s.door i).custody ≠ .emergency ∨ (s.door i).rHandle = false →
          s.tells t ⟨.comms, some (i.val + 1), ["RECOVERY", (resolve st).text]⟩))) ∧
  (∀ (p : Poll) (how : PollEnd) (k : MissKind) (i : DoorIx) (s : State), s.alive = true → s.bus.poll = some p → p.discard = false →
    p.door = i → judgePoll i how = .miss k → (s.door i).misses = 2 →
    ∃ t, exec (.doorMiss how) s = .next t ∧ s.tells t ⟨.comms, some (i.val + 1), ["LOSS", (s.door i).state.text, k.text]⟩) ∧
  (∀ (l : Link) (s : State), s.ready l .eo → s.rel.trainLatch = false →
    ∃ t, exec (.eo l) s = .next t ∧ s.tells t (releaseReport (if s.berth.state.takesRelease then s.takenCount else 0) t)) ∧
  (∀ s : State, s.alive = true → s.rel.esrTimer.isSome = true → s.rel.esrLatch = false →
    ∃ t, exec .esrQualificationExpiry s = .next t ∧
      s.tells t (releaseReport (if s.berth.state.takesRelease then s.takenCount else 0) t)) ∧
  (∀ s : State, s.ready .panel .er → s.power.esr = false → s.rel.active = true →
    ∃ t, exec (.er .panel none) s = .next t ∧
      s.tells t (releaseReport (allDoors.filter fun i => (s.door i).rPlatform && !(s.door i).rHandle).length t)) ∧
  (∀ (l : Link) (s : State), s.ready l .rj → s.berth.state = .partialHeld → s.rel.active = true →
    ∃ t, exec (.rj l) s = .next t ∧ s.tells t (releaseReport 0 t)) ∧
  (∀ s : State, s.alive = true → s.trk.loss.isSome = true → s.berth.state.holdsMap = true → s.berth.state ≠ .aligned →
    s.rel.active = true → ∃ t, exec .targetLoss s = .next t ∧ s.tells t (releaseReport 0 t)) ∧
  (∀ (l : Link) (i : DoorIx) (s : State), s.ready l .iu → (s.door i).configured = true → (s.door i).custody = .isolated →
    (s.door i).live.handle = true → i ∉ s.rel.pendingMaint →
    ∃ t, exec (.iu l (ixInt i)) s = .next t ∧ s.tells t (handleReport i (t.door i))) ∧
  (∀ s : State, s.ready .train .dp → s.berth.state = .aligned ∨ s.berth.state = .partialHeld ∨ s.berth.state = .departing →
    s.mapClosed = false → ∃ t, exec (.dp .train) s = .next t ∧ s.tells t (movedReport s)) ∧
  (∀ (x : SensorId) (d : Nat) (s : State), s.alive = true → s.start.phase ≠ .starting → (s.trk.sensor x).part = [] → d ≤ 300000 →
    s.reportMarks none = true → s.berth.state = .aligned ∨ s.berth.state = .partialHeld ∨ s.berth.state = .departing →
    s.awayFromHead x d = true → s.mapClosed = false →
    ∃ t, exec (.rangingSample x (okSampleBytes d)) s = .next t ∧ s.tells t (movedReport s)) ∧
  (∀ s : State, s.ready .train .ka → s.auth.stage ≠ .normal →
    ∃ t, exec (.ka .train) s = .next t ∧ s.tells t ⟨.supervision, none, ["NORMAL"]⟩) ∧
  (∀ s : State, s.alive = true → s.auth.supv.isSome = true →
    (s.auth.stage = .normal → ∃ t, exec .supervisionExpiry s = .next t ∧ s.tells t ⟨.supervision, none, ["LATE"]⟩) ∧
    (s.auth.stage = .late → ∃ t, exec .supervisionExpiry s = .next t ∧ s.tells t ⟨.supervision, none, ["LOST"]⟩)) ∧
  (∀ (auto loc maint : Bool) (s : State), s.alive = true →
    (s.power.auto ≠ auto ∨ s.power.loc ≠ loc ∨ s.power.maint ≠ maint) →
    ∃ t, exec (.keyInputChange auto loc maint) s = .next t ∧
      (t.auth.keyFault ≠ s.auth.keyFault →
        s.tells t ⟨.keyFault, none, [setF t.auth.keyFault, levelF auto, levelF loc, levelF maint]⟩) ∧
      (s.auth.stage = .lost → s.auth.fallback = true → t.auth.key ≠ .auto → s.tells t ⟨.supervision, none, ["NORMAL"]⟩)) ∧
  (∀ (a b : Bool) (s : State), s.power.resetPin = false →
    ∃ t, exec (.powerOn a b false) s = .next t ∧ s.tells t ⟨.script, none, ["CONFIG_FAULT", "0", "ABSENT"]⟩ ∧
      (t.auth.keyFault = true →
        s.tells t ⟨.keyFault, none, ["SET", levelF s.power.auto, levelF s.power.loc, levelF s.power.maint]⟩)) ∧
  (∀ (l : Link) (s : State), s.ready l .ru → s.start.phase = .configFault → s.configuredDoors ≠ [] →
    (∀ p : ProfileIx, (s.profile p).state = .empty ∨ (s.profile p).state = .valid) →
    ∃ t, exec (.ru l) s = .next t ∧ s.tells t ⟨.script, none, ["RUNNING", "RU"]⟩)

/-! Configuration. -/

/-- R15: TS stores the value clamped into its range, or the default; its reply carries what was stored. R16: WARN raises MAXHOLD with it,
MAXHOLD is clamped at WARN, and the replies to both carry the two. -/
def Obligations.TimingSettingStored : Prop :=
  ∀ (l : Link) (s : State), s.ready l .ts →
    (∀ (n : Setting) (v : Option Int), ∃ t, exec (.ts l (.is n) v) s = .next t ∧
      t.settings.get n = (clamp (settingRange s.settings n).1 (settingRange s.settings n).2 (v.getD (settingDefault n))).toNat ∧
      (∀ m : Setting, m ≠ n → ¬(n = .warn ∧ m = .maxhold) → t.settings.get m = s.settings.get m) ∧
      t.replies l (.ok .ts (t.settings.replyF n)) ∧ t.cfg = { s.cfg with settings := t.settings } ∧
      s.sameButHeard l [.cfg] t ∧ s.inputsSame t) ∧
    (∀ v : Option Int, ∃ t, exec (.ts l (.is .warn) v) s = .next t ∧ t.settings.warn = (clamp 500 10000 (v.getD 2500)).toNat ∧
      t.settings.maxhold = max s.settings.maxhold t.settings.warn ∧
      t.replies l (.ok .ts ["WARN", numF t.settings.warn, "MAXHOLD", numF t.settings.maxhold])) ∧
    (∀ v : Option Int, ∃ t, exec (.ts l (.is .maxhold) v) s = .next t ∧ t.settings.warn = s.settings.warn ∧
      t.settings.maxhold = (clamp s.settings.warn 30000 (v.getD 8000)).toNat ∧
      (s.settings.warn ≤ 10000 → s.settings.warn ≤ t.settings.maxhold) ∧
      t.replies l (.ok .ts ["WARN", numF t.settings.warn, "MAXHOLD", numF t.settings.maxhold]))

/-- R1, R3, R79: DC on an unconfigured entry creates the door as R3 states and touches nothing else. R61: the first door of a part that
polls none is polled at once, with the order HOLD. The window of that poll is the model's
choice (log 32). R5, R79: DX returns the door to its reset values, takes it off the pending list and out of the bus cycle. -/
def Obligations.DoorCreatedAndRemoved : Prop :=
  (∀ (l : Link) (i : DoorIx) (e : DoorEntry) (near far group : Option Int) (egress : Option (Kw Bool))
      (retry force blank window : Option Int) (iso : Option (Kw Bool)) (s : State),
      s.ready l .dc → s.berth.state = .empty → (s.door i).entry = none →
      dcEntry none near far group egress retry force blank window iso = some e → e.widthOk = true → s.edgesClash i e = false →
      (s.bus.poll.isSome = true →
        ∃ t, exec (.dc l (ixInt i) near far group egress retry force blank window iso) s = .next t ∧
          t.replies l (.ok .dc (ixF i :: e.fieldsF)) ∧ t.door i = Door.created e ∧
          t.doorIs i .unknown none (if e.iso then .isolated else .sequencer) ∧
          (t.door i).entry = some e ∧ s.otherDoors [i] t ∧ s.sameButHeard l [.doors] t ∧ s.inputsSame t) ∧
      (s.bus = ⟨[], none⟩ → s.configuredDoors = [] →
        ∃ t, exec (.dc l (ixInt i) near far group egress retry force blank window iso) s = .next t ∧
          t.replies l (.ok .dc (ixF i :: e.fieldsF)) ∧ t.door i = { Door.created e with lastOrder := some .hold } ∧
          t.doorIs i .unknown none (if e.iso then .isolated else .sequencer) ∧
          t.bus = ⟨[], some ⟨i, orderFrame i e.force ⟨.hold, .off, false⟩, 8 + e.window, false⟩⟩ ∧
          s.otherDoors [i] t ∧ s.sameButHeard l [.doors, .bus] t ∧ s.inputsSame t)) ∧
  (∀ (l : Link) (i : DoorIx) (s : State), s.ready l .dx → s.berth.state = .empty → (s.door i).configured = true →
      (s.door i).custody ≠ .emergency → (s.door i).testPhase = .none → s.zoneNames i = false →
      ∃ t, exec (.dx l (ixInt i)) s = .next t ∧ t.replies l (.ok .dx [ixF i]) ∧ t.door i = Door.reset ∧
        i ∉ t.rel.pendingMaint ∧ (∀ k : DoorIx, k ≠ i → (k ∈ t.rel.pendingMaint ↔ k ∈ s.rel.pendingMaint)) ∧ i ∉ t.bus.cycle ∧
        (∀ p, t.bus.poll = some p → p.door = i → p.discard = true) ∧
        (∀ k : Link, (t.port k).watch ≠ some (.door i)) ∧
        s.otherDoors [i] t ∧ s.sameButHeard l [.doors, .rel, .bus] t)

/-- R2, R4: DC on a configured entry stores the fields and lowers the retry count to the new limit + 1; the limits it names come into
force. With iso as it was, state, custody and timers stay; iso from NO to YES acts as IS with FORCE, and from YES to NO as IU, where the
door's custody is not yet so; a door not pending (R142) in the latter. -/
def Obligations.DoorEdited : Prop :=
  ∀ (l : Link) (i : DoorIx) (old e : DoorEntry) (near far group : Option Int) (egress : Option (Kw Bool))
    (retry force blank window : Option Int) (iso : Option (Kw Bool)) (s : State),
    s.ready l .dc → s.berth.state = .empty → (s.door i).entry = some old →
    dcEntry (some old) near far group egress retry force blank window iso = some e → e.widthOk = true → s.edgesClash i e = false →
    (s.door i).custody ≠ .emergency → (s.door i).testPhase = .none →
    (e.iso = old.iso ∨ (e.iso = true ∧ (s.door i).custody = .isolated) ∨ (e.iso = false ∧ (s.door i).custody ≠ .isolated) →
      ∃ t, exec (.dc l (ixInt i) near far group egress retry force blank window iso) s = .next t ∧
        t.replies l (.ok .dc (ixF i :: e.fieldsF)) ∧ (t.door i).entry = some e ∧
        (t.door i).retry = min (s.door i).retry (e.retry + 1) ∧
        t.doorIs i (s.door i).state (s.door i).fault (s.door i).custody ∧
        (t.door i).warn = (s.door i).warn ∧ (t.door i).maxHold = (s.door i).maxHold ∧ (t.door i).pause = (s.door i).pause ∧
        (t.door i).timeout = (s.door i).timeout ∧ (t.door i).lock = (s.door i).lock ∧ (t.door i).opens = (s.door i).opens ∧
        (t.door i).obstacles = (s.door i).obstacles ∧ (t.door i).lastTest = (s.door i).lastTest ∧
        s.otherDoors [i] t ∧ s.sameButHeard l [.doors] t ∧ s.inputsSame t) ∧
    (old.iso = false → e.iso = true → (s.door i).custody ≠ .isolated →
      ((s.door i).state = .closedLocked ∨ (s.door i).state = .fault ∨ (s.door i).state = .unknown →
        ∃ t, exec (.dc l (ixInt i) near far group egress retry force blank window iso) s = .next t ∧
          t.replies l (.ok .dc (ixF i :: e.fieldsF)) ∧ (t.door i).entry = some e ∧
          (t.door i).retry = min (s.door i).retry (e.retry + 1) ∧ t.doorIs i (s.door i).state (s.door i).fault .isolated ∧
          (t.door i).mOrder = .hold ∧ (t.door i).stopped ∧ i ∉ t.rel.pendingMaint ∧
          (∀ k : DoorIx, k ≠ i → (k ∈ t.rel.pendingMaint ↔ k ∈ s.rel.pendingMaint)) ∧
          s.otherDoors [i] t ∧ s.sameButHeard l [.doors, .rel] t ∧ s.inputsSame t) ∧
      ((s.door i).state ≠ .closedLocked → (s.door i).state ≠ .fault → (s.door i).state ≠ .unknown →
        ∃ t, exec (.dc l (ixInt i) near far group egress retry force blank window iso) s = .next t ∧
          t.replies l (.no "DC" .state) ∧ s.sameButHeard l [] t ∧ s.inputsSame t)) ∧
    (old.iso = true → e.iso = false → (s.door i).custody = .isolated → i ∉ s.rel.pendingMaint →
      ∃ t, exec (.dc l (ixInt i) near far group egress retry force blank window iso) s = .next t ∧
        t.replies l (.ok .dc (ixF i :: e.fieldsF)) ∧ (t.door i).entry = some e ∧
        (t.door i).retry = min (s.door i).retry (e.retry + 1) ∧
        ((s.door i).live.handle = false → (t.door i).custody = .maint ∧ (t.door i).mOrder = .hold ∧
          ((s.door i).hardFault = true → (t.door i).state = .fault ∧ (t.door i).fault = (s.door i).fault) ∧
          ((s.door i).hardFault = false → (t.door i).state = (s.door i).resolved ∧ (t.door i).fault = none)) ∧
        ((s.door i).live.handle = true → t.doorIs i .released none .emergency ∧ (t.door i).rHandle = true ∧
          (t.door i).retMaint = true) ∧
        s.otherDoors [i] t ∧ s.sameButHeard l [.doors] t ∧ s.inputsSame t)

/-- R9, R10, R11: PB opens an edit, abandoning one of its own source; PD appends a train door to it. -/
def Obligations.ProfileEdited : Prop :=
  (∀ (l : Link) (p : ProfileIx) (f : ProfileFields) (len stop tstop tpartial omin dagree : Option Int) (rep : Option (Kw Bool))
    (gap : Option Int) (s : State), s.ready l .pb → s.referenced p = false → s.foreignEdit (.link l) = false →
    pbFields len stop tstop tpartial omin dagree rep gap = some f →
    ∃ t, exec (.pb l (ixInt p) len stop tstop tpartial omin dagree rep gap) s = .next t ∧
      t.replies l (.ok .pb (ixF p :: f.fieldsF)) ∧ t.profile p = { state := .editing, fields := some f, doors := [] } ∧
      t.cfg.edit = some { owner := .link l, profile := p } ∧
      (∀ q : ProfileIx, q ≠ p → t.profile q =
        if s.ownsEdit (.link l) = some q then { s.profile q with state := .invalid .abandoned } else s.profile q) ∧
      t.settings = s.settings ∧ t.cfg.marks = s.cfg.marks ∧ s.sameButHeard l [.cfg] t ∧ s.inputsSame t) ∧
  (∀ (l : Link) (p : ProfileIx) (tn tf : Nat) (s : State), s.ready l .pd → s.ownsEdit (.link l) = some p →
    (s.profile p).doors.length < 48 → tn ≤ 300000 → tf ≤ 300000 →
    ∃ t, exec (.pd l (some (tn : Int)) (some (tf : Int))) s = .next t ∧
      t.replies l (.ok .pd [numF ((s.profile p).doors.length + 1), numF tn, numF tf]) ∧
      t.profile p = { s.profile p with doors := (s.profile p).doors ++ [{ tn := tn, tf := tf }] } ∧
      (∀ q : ProfileIx, q ≠ p → t.profile q = s.profile q) ∧ t.cfg.edit = s.cfg.edit ∧ t.settings = s.settings ∧
      t.cfg.marks = s.cfg.marks ∧ s.sameButHeard l [.cfg] t ∧ s.inputsSame t)

/-- R12: PE closes the edit and makes the profile VALID or INVALID with the first reason that fails, in the order of the checks. R13: PX
erases a profile, and is refused RANGE out of range and BUSY where the profile is referenced or another source edits it. -/
def Obligations.ProfileEnded : Prop :=
  (∀ (l : Link) (p : ProfileIx) (f : ProfileFields) (s : State), s.ready l .pe → s.ownsEdit (.link l) = some p →
    (s.profile p).fields = some f →
    ∃ t, exec (.pe l) s = .next t ∧ t.cfg.edit = none ∧ (t.profile p).fields = some f ∧ (t.profile p).doors = (s.profile p).doors ∧
      (validate f (s.profile p).doors = none → (t.profile p).state = .valid ∧ t.replies l (.ok .pe [ixF p, "VALID"])) ∧
      (∀ why k, validate f (s.profile p).doors = some (why, k) → (t.profile p).state = .invalid why ∧
        t.replies l (.ok .pe ([ixF p, "INVALID", why.text] ++ (k.map numF).toList))) ∧
      (∀ q : ProfileIx, q ≠ p → t.profile q = s.profile q) ∧ t.settings = s.settings ∧ t.cfg.marks = s.cfg.marks ∧
      s.sameButHeard l [.cfg] t ∧ s.inputsSame t) ∧
  (∀ (l : Link) (p : ProfileIx) (s : State), s.ready l .px → s.referenced p = false →
    ((s.profile p).state = .editing → s.ownsEdit (.link l) = some p) →
    ∃ t, exec (.px l (ixInt p)) s = .next t ∧ t.replies l (.ok .px [ixF p]) ∧ t.profile p = Profile.reset ∧
      (∀ e, t.cfg.edit = some e → e.profile ≠ p) ∧ (∀ q : ProfileIx, q ≠ p → t.profile q = s.profile q) ∧
      t.settings = s.settings ∧ t.cfg.marks = s.cfg.marks ∧ s.sameButHeard l [.cfg] t ∧ s.inputsSame t) ∧
  (∀ (l : Link) (p : Int) (s : State), s.ready l .px → p < 1 ∨ 8 < p →
    ∃ t, exec (.px l p) s = .next t ∧ t.replies l (.no "PX" .range) ∧ s.sameButHeard l [] t ∧ s.inputsSame t) ∧
  (∀ (l : Link) (p : ProfileIx) (s : State), s.ready l .px →
    s.referenced p = true ∨ ((s.profile p).state = .editing ∧ s.ownsEdit (.link l) ≠ some p) →
    ∃ t, exec (.px l (ixInt p)) s = .next t ∧ t.replies l (.no "PX" .busy) ∧ s.sameButHeard l [] t ∧ s.inputsSame t) ∧
  (∀ (f : ProfileFields) (ds : List TrainDoor),
     (validate f ds = none ↔
       ds ≠ [] ∧ (∀ d ∈ ds, d.tn + 600 ≤ d.tf ∧ d.tf ≤ d.tn + 2500) ∧ (∀ n a b, ds[n]? = some a → ds[n + 1]? = some b → a.tf < b.tn) ∧
       (∀ d ∈ ds, d.tf ≤ f.len) ∧ f.stop + f.len ≤ 300000) ∧
     (ds = [] → validate f ds = some (.count, none)) ∧
     (∀ k, validate f ds = some (.width, k) ↔
       ∃ n d, k = some (n + 1) ∧ ds[n]? = some d ∧ d.widthOk = false ∧ ∀ m x, m < n → ds[m]? = some x → x.widthOk = true))

/-- R22: MK sets a mark, MX removes one. R115, R109: RO sets a head's frames per turn within the limit of the turn; a head that goes to
0 drops what it held. R118, R119, R120: ZC sets a zone with both runs at 0, DISABLED or UNKNOWN with its head not yet seen; ZX removes
one. -/
def Obligations.MarksRotationAndZonesSet : Prop :=
  (∀ (l : Link) (m : MarkIx) (x : Nat) (d : MarkDir) (a : MarkAction) (s : State), s.ready l .mk → s.berth.state = .empty →
    x ≤ 300000 →
    ∃ t, exec (.mk l (ixInt m) (some (x : Int)) (.is d) (.is a)) s = .next t ∧
      t.replies l (.ok .mk [ixF m, numF x, dirName d, actionName a]) ∧ t.mark m = some { x := x, dir := d, action := a } ∧
      (∀ k : MarkIx, k ≠ m → t.mark k = s.mark k) ∧ t.cfg.profiles = s.cfg.profiles ∧ t.cfg.edit = s.cfg.edit ∧
      t.settings = s.settings ∧ s.sameButHeard l [.cfg] t ∧ s.inputsSame t) ∧
  (∀ (l : Link) (m : MarkIx) (s : State), s.ready l .mx → s.berth.state = .empty → (s.mark m).isSome = true →
    ∃ t, exec (.mx l (ixInt m)) s = .next t ∧ t.replies l (.ok .mx [ixF m]) ∧ t.mark m = none ∧
      (∀ k : MarkIx, k ≠ m → t.mark k = s.mark k) ∧ t.cfg.profiles = s.cfg.profiles ∧ t.cfg.edit = s.cfg.edit ∧
      t.settings = s.settings ∧ s.sameButHeard l [.cfg] t ∧ s.inputsSame t) ∧
  (∀ (l : Link) (h : HeadIx) (f : Nat) (s : State), s.ready l .ro → f ≤ 7 → s.turnWith h f ≤ 48 →
     ∃ t, exec (.ro l (ixInt h) (f : Int)) s = .next t ∧
       t.replies l (.ok .ro [ixF h, numF f, numF (10 * s.turnWith h f)]) ∧ (t.head h).f = f ∧
       (t.head h).withdrawn = (s.head h).withdrawn ∧ (t.head h).skipped = (s.head h).skipped ∧
       (f = 0 → t.head h = ({ s.head h with f := 0 } : Head).dropFrames) ∧ s.otherHeads h t ∧ t.cfg = s.cfg ∧
       s.sameButHeard l [.sense, .doors] t ∧ s.inputsSame t) ∧
  (∀ (l : Link) (z : ZoneIx) (c : ZoneCfg) (head first count : Option Int) (kind : Option (Kw ZoneKind))
    (d1 d2 thr on off : Option Int) (en : Option (Kw Bool)) (s : State), s.ready l .zc → s.berth.state = .empty →
    zoneRecord head first count kind d1 d2 thr on off en = some c → (∀ i ∈ c.doors, (s.door i).configured = true) →
    (s.head c.head).skipped = false →
    ∃ t, exec (.zc l (ixInt z) head first count kind d1 d2 thr on off en) s = .next t ∧
      t.replies l (.ok .zc (ixF z :: c.fieldsF)) ∧
      t.zone z = some { cfg := c, state := if c.en then .unknown else .disabled, hits := 0, clears := 0, lastCount := none } ∧
      (∀ k : ZoneIx, k ≠ z → t.zone k = s.zone k) ∧ t.sense.heads = s.sense.heads ∧ t.sense.scan = s.sense.scan ∧
      s.sameButHeard l [.sense, .doors] t ∧ s.inputsSame t) ∧
  (∀ (l : Link) (z : ZoneIx) (s : State), s.ready l .zx → s.berth.state = .empty → (s.zone z).isSome = true →
    ∃ t, exec (.zx l (ixInt z)) s = .next t ∧ t.replies l (.ok .zx [ixF z]) ∧ t.zone z = none ∧
      (∀ k : ZoneIx, k ≠ z → t.zone k = s.zone k) ∧ t.sense.heads = s.sense.heads ∧ t.sense.scan = s.sense.scan ∧
      (∀ k : Link, (t.port k).watch ≠ some (.zone z)) ∧ s.sameButHeard l [.sense, .doors] t)

/-! The berth. -/

/-- R31, R32, R34, R35: what the berth makes of an OK sample in each state other than EMPTY: a standstill in APPROACH aligns or awaits a
profile, a sample away from a reference value or from the head position is motion. R23, R24: a mark that the sample crosses is reported,
stops the approach, or clears the berth; that a berth so cleared may be entered again by the same sample is the model's choice (log 19). -/
def Obligations.SampleJudged : Prop :=
  ∀ (x : SensorId) (d : Nat) (s : State), s.alive = true → s.start.phase ≠ .starting → (s.trk.sensor x).part = [] → d ≤ 300000 →
    ∃ t, exec (.rangingSample x (okSampleBytes d)) s = .next t ∧ t.trk.trackT = (s.sensed x d).trackT ∧
      s.sameBut [.doors, .trk, .sense, .rel, .auth] t ∧ s.inputsSame t ∧
      (s.reportMarks none = true →
        (s.berth.state = .approach →
          ((s.sensed x d).standstill = false → t.berth = s.berth) ∧
          ((s.sensed x d).standstill = true →
            (∀ y : SensorId, ((s.sensed x d).sensor y).usable = true →
              (t.trk.sensor y).ref = some ((s.sensed x d).sensor y).settledValue) ∧
            (s.berth.profile = none → t.berth = { s.berth with state := .awaitProfile }) ∧
            (s.berth.profile.isSome = true →
              t.berth = s.align s.berth (s.sensed x d).sensorA.present (s.sensed x d).sensorB.present))) ∧
        (s.berth.state = .awaitProfile →
          (s.awayFromRef x d = true → t.berth = { s.berth.unaligned .approach with reberth := satInc 15 s.berth.reberth }) ∧
          (s.awayFromRef x d = false → (s.sensed x d).standstill = false → t.berth = s.berth.unaligned .approach) ∧
          (s.awayFromRef x d = false → (s.sensed x d).standstill = true → t.berth = s.berth)) ∧
        (s.berth.state = .outOfBerth ∨ s.berth.state = .alignFault →
          (s.awayFromRef x d = true → t.berth = { s.berth.unaligned .approach with reberth := satInc 15 s.berth.reberth } ∧
            (∀ y : SensorId, (t.trk.sensor y).window = [] ∧ (t.trk.sensor y).ref = none)) ∧
          (s.awayFromRef x d = false → t.berth = s.berth) ∧
          (s.trk.sensorA.ref = none → s.trk.sensorB.ref = none → (s.sensed x d).standstill = true →
            (∀ y : SensorId, ((s.sensed x d).sensor y).usable = true →
              (t.trk.sensor y).ref = some ((s.sensed x d).sensor y).settledValue))) ∧
        (s.berth.state = .departing →
          (s.awayFromHead x d = true → s.mapClosed = false → t.berth = { s.berth with state := .movedOpen }) ∧
          (s.awayFromHead x d = false ∨ s.mapClosed = true → t.berth = s.berth)) ∧
        (s.berth.state = .movedOpen → t.berth = s.berth)) ∧
      (s.berth.state = .aligned ∨ s.berth.state = .partialHeld →
        (s.awayFromHead x d = false → t.berth = s.berth) ∧
        (s.awayFromHead x d = true → s.mapClosed = false → t.berth = { s.berth with state := .movedOpen }) ∧
        (s.awayFromHead x d = true → s.mapClosed = true →
          (s.berth.state = .aligned → t.berth = { s.berth with state := .departing }) ∧
          (s.berth.state = .partialHeld →
            t.berth = { s.berth.unaligned .approach with reberth := satInc 15 s.berth.reberth }))) ∧
      (∀ (m : MarkIx) (k : Mark) (p n : Nat), s.mark m = some k → s.trk.prevT = some p → (s.sensed x d).trackT = some n →
        (k.action = .report → k.dir ≠ .outbound → k.x < p → n ≤ k.x → s.tells t (markReport m k.x true n)) ∧
        (k.action = .report → k.dir ≠ .inbound → p ≤ k.x → k.x < n → s.tells t (markReport m k.x false n)) ∧
        (k.action = .overrun → k.dir ≠ .outbound → k.x < p → n ≤ k.x → s.reportMarks (some m) = true → s.berth.state = .approach →
          s.trk.sensorA.ref = none → s.trk.sensorB.ref = none →
          t.berth = { s.berth with state := .outOfBerth, oob := some .overrun } ∧ s.tells t (overrunReport m n)) ∧
        (k.action = .clear → k.dir ≠ .inbound → p ≤ k.x → k.x < n → s.reportMarks (some m) = true →
          s.berth.state = .departing ∨ s.berth.state = .movedOpen →
          (s.settings.approach < n → t.berth = Berth.reset ∧ t.trk.loss = none ∧ t.trk.sensorA.ref = none ∧ t.trk.sensorB.ref = none) ∧
          (n ≤ s.settings.approach → t.berth.state ≠ .empty)))

/-- R27, R28: AR in EMPTY becomes the expected-arrival record, in APPROACH it replaces the berth record's identity, and in AWAIT_PROFILE
alignment runs at once on the settled values. R30: SP stores the reported position in APPROACH and AWAIT_PROFILE; in EMPTY, with an
arrival expected and both sensors FAULT or SILENT, alignment runs at once on it with no sensor. -/
def Obligations.TrainAnnounced : Prop :=
  (∀ (p : ProfileIx) (tr r : Option Nat) (cuts : List Nat) (s : State), s.ready .train .ar →
     (∀ x, tr = some x → x ≤ 65535) → (∀ x, r = some x → x ≤ 300000) → cuts.Pairwise (· < ·) →
     (∀ c ∈ cuts, 1 ≤ c ∧ c ≤ 48 ∧ c ≤ (s.profile p).doors.length) → (s.profile p).state = .valid →
     (s.berth.state = .empty →
       ∃ t, exec (.ar .train (ixInt p) (tr.map Int.ofNat) (r.map Int.ofNat) (cuts.map Int.ofNat)) s = .next t ∧
         t.trk = { s.trk with expected := some { profile := p, trainId := tr, r := r, cuts := cuts } } ∧
         t.replies .train (.ok .ar [ixF p, "EXPECTED"]) ∧ s.sameButHeard .train [.trk] t ∧ s.inputsSame t) ∧
     (s.berth.state = .approach →
       ∃ t, exec (.ar .train (ixInt p) (tr.map Int.ofNat) (r.map Int.ofNat) (cuts.map Int.ofNat)) s = .next t ∧
         t.trk = { s.trk with berth := { s.berth with profile := some p, trainId := tr, r := r, cuts := cuts } } ∧
         t.replies .train (.ok .ar [ixF p, "APPROACH"]) ∧ s.sameButHeard .train [.trk] t ∧ s.inputsSame t) ∧
     (s.berth.state = .awaitProfile →
       ∃ t, exec (.ar .train (ixInt p) (tr.map Int.ofNat) (r.map Int.ofNat) (cuts.map Int.ofNat)) s = .next t ∧
         t.berth = s.align { s.berth with profile := some p, trainId := tr, r := r, cuts := cuts } s.trk.sensorA.present s.trk.sensorB.present ∧
         t.replies .train (.ok .ar [ixF p, t.berth.state.text]) ∧ t.trk.expected = s.trk.expected ∧
         t.trk.sensorA = s.trk.sensorA ∧ t.trk.sensorB = s.trk.sensorB ∧ t.trk.loss = s.trk.loss ∧ t.cfg = s.cfg ∧ t.bus = s.bus ∧
         t.power = s.power ∧ t.start = s.start ∧ s.inputsSame t)) ∧
  (∀ (r : Nat) (s : State), s.ready .train .sp → r ≤ 300000 →
     (s.berth.state = .approach ∨ s.berth.state = .awaitProfile →
       ∃ t, exec (.sp .train (r : Int)) s = .next t ∧ t.trk = { s.trk with berth := { s.berth with r := some r } } ∧
         t.replies .train (.ok .sp [numF r, s.berth.state.text]) ∧ s.sameButHeard .train [.trk] t ∧ s.inputsSame t) ∧
     (∀ x, s.berth.state = .empty → s.trk.expected = some x → s.trk.sensorA.dead = true → s.trk.sensorB.dead = true →
       ∃ t, exec (.sp .train (r : Int)) s = .next t ∧ t.trk.expected = none ∧ t.trk.loss = s.trk.loss ∧
         t.berth = s.align { Berth.reset with profile := some x.profile, trainId := x.trainId, r := some r, cuts := x.cuts } none none ∧
         t.replies .train (.ok .sp [numF r, t.berth.state.text]) ∧ t.cfg = s.cfg ∧ t.bus = s.bus ∧ t.power = s.power ∧
         t.start = s.start ∧ s.inputsSame t))

/-- R34, R35, R36: DP is a motion event in every state but EMPTY and APPROACH, where it is refused STATE, and goes as the map doors
stand. R137: a release that stands takes the map doors as DEPARTING becomes MOVED_OPEN. -/
def Obligations.DepartureTold : Prop :=
  ∀ s : State, s.ready .train .dp →
    (s.berth.state = .outOfBerth ∨ s.berth.state = .alignFault ∨ s.berth.state = .awaitProfile →
      ∃ t, exec (.dp .train) s = .next t ∧ t.berth = { s.berth.unaligned .approach with reberth := satInc 15 s.berth.reberth } ∧
        t.trk.sensorA = { s.trk.sensorA with window := [], settled := false, ref := none } ∧
        t.trk.sensorB = { s.trk.sensorB with window := [], settled := false, ref := none } ∧ t.trk.loss.isSome = true ∧
        t.replies .train (.ok .dp ["APPROACH"]) ∧ s.sameButHeard .train [.trk, .auth] t ∧ s.inputsSame t) ∧
    (s.berth.state = .aligned → s.mapClosed = true →
      ∃ t, exec (.dp .train) s = .next t ∧ t.berth = { s.berth with state := .departing } ∧ t.trk.loss.isSome = true ∧
        t.replies .train (.ok .dp ["DEPARTING"]) ∧ s.sameButHeard .train [.trk, .auth] t ∧ s.inputsSame t) ∧
    (s.berth.state = .aligned ∨ s.berth.state = .partialHeld → s.mapClosed = false →
      ∃ t, exec (.dp .train) s = .next t ∧ t.berth = { s.berth with state := .movedOpen } ∧ t.trk.loss.isSome = true ∧
        t.replies .train (.ok .dp ["MOVED_OPEN"]) ∧ s.sameButHeard .train [.trk, .auth] t ∧ s.inputsSame t) ∧
    (s.berth.state = .partialHeld → s.mapClosed = true →
      ∃ t, exec (.dp .train) s = .next t ∧ t.berth = { s.berth.unaligned .approach with reberth := satInc 15 s.berth.reberth } ∧
        t.replies .train (.ok .dp ["APPROACH"]) ∧ t.cfg = s.cfg ∧ t.bus = s.bus ∧ t.power = s.power ∧ s.inputsSame t) ∧
    (s.berth.state = .departing → s.mapClosed = true →
      ∃ t, exec (.dp .train) s = .next t ∧ t.replies .train (.ok .dp ["DEPARTING"]) ∧ s.sameButHeard .train [] t ∧ s.inputsSame t) ∧
    (s.berth.state = .departing → s.mapClosed = false →
      ∃ t, exec (.dp .train) s = .next t ∧ t.berth = { s.berth with state := .movedOpen } ∧ t.trk.loss.isSome = true ∧
        t.replies .train (.ok .dp ["MOVED_OPEN"]) ∧
        (s.rel.active = false → s.sameButHeard .train [.trk, .auth] t) ∧
        (s.rel.active = true → (∀ i : DoorIx, s.berth.isMapDoor i = true → (s.door i).custody = .sequencer →
          (t.door i).custody = .emergency ∧ (t.door i).rPlatform = true)) ∧
        s.sameButHeard .train [.doors, .trk, .rel, .auth] t ∧ s.inputsSame t) ∧
    (s.berth.state = .movedOpen →
      ∃ t, exec (.dp .train) s = .next t ∧ t.replies .train (.ok .dp ["MOVED_OPEN"]) ∧ s.sameButHeard .train [] t ∧ s.inputsSame t) ∧
    (s.berth.state = .empty ∨ s.berth.state = .approach →
      ∃ t, exec (.dp .train) s = .next t ∧ t.replies .train (.no "DP" .state) ∧ s.sameButHeard .train [] t ∧ s.inputsSame t)

/-- R37: AC accepts a partial berth and keeps all it holds; RJ rejects it, keeping the head estimate and clearing the map. R38, R39: BC
empties the berth; with T undefined it stays EMPTY, else it enters APPROACH with the record of R29. R139: where RJ or BC clears a map with
release active, the OPENING doors that release holds go to OPEN. -/
def Obligations.BerthJudged : Prop :=
  (∀ (l : Link) (s : State), s.berth.state = .partialHeld →
     (s.ready l .ac → ∃ t, exec (.ac l) s = .next t ∧ t.trk = { s.trk with berth := { s.berth with state := .aligned, accepted := true } } ∧
       t.replies l (.ok .ac []) ∧ s.sameButHeard l [.trk, .auth] t ∧ s.inputsSame t) ∧
     (s.ready l .rj → ∃ t, exec (.rj l) s = .next t ∧ t.berth.state = .outOfBerth ∧ t.berth.oob = some .rejected ∧
       t.berth.map = [] ∧ t.berth.uncovered = [] ∧ t.berth.partials = ⟨false, false, false⟩ ∧ t.berth.est = s.berth.est ∧
       t.berth.profile = s.berth.profile ∧ t.berth.reberth = s.berth.reberth ∧ s.platformOpened t ∧
       (∀ h : HeadIx, (t.head h).skipped = false) ∧ t.replies l (.ok .rj []) ∧ t.trk.sensorA = s.trk.sensorA ∧
       t.trk.sensorB = s.trk.sensorB ∧ t.cfg = s.cfg ∧ t.bus = s.bus ∧ t.power = s.power ∧ s.inputsSame t)) ∧
  (∀ (l : Link) (s : State), s.ready l .bc → s.berth.state.takesBc = true →
     (s.trk.trackT = none →
       ∃ t, exec (.bc l) s = .next t ∧ t.berth = Berth.reset ∧ t.trk.loss = none ∧ t.trk.sensorA.ref = none ∧
         t.trk.sensorB.ref = none ∧ t.trk.expected = s.trk.expected ∧ t.replies l (.ok .bc ["EMPTY"]) ∧ t.cfg = s.cfg ∧
         (s.berth.state = .departing → s.platformOpened t) ∧
         t.bus = s.bus ∧ t.power = s.power ∧ s.inputsSame t) ∧
     (s.trk.trackT.isSome = true →
       ∃ t, exec (.bc l) s = .next t ∧ t.berth = s.approachRecord ∧ t.trk.loss = some 1000 ∧ t.trk.expected = none ∧
         t.replies l (.ok .bc ["APPROACH"]) ∧ (s.berth.state = .departing → s.platformOpened t) ∧ t.cfg = s.cfg ∧ t.bus = s.bus ∧ t.power = s.power ∧ s.inputsSame t))

/-- R43, R44, R45: the head estimate; without one a run ends in ALIGN_FAULT with its reason. -/
def Obligations.HeadEstimated : Prop :=
  ∀ (f : ProfileFields) (a b r : Nat),
    ((a ≤ b + f.dagree ∧ b ≤ a + f.dagree) → ∀ x, headEstimate f x (some a) (some b) = .at_ ((a + b) / 2) true true .dual) ∧
    ((b + f.dagree < a ∨ a + f.dagree < b) →
      headEstimate f none (some a) (some b) = .fault .disagree ∧
      (((a : Int) - r).natAbs ≤ ((b : Int) - r).natAbs → headEstimate f (some r) (some a) (some b) = .at_ a true false .arbitrated) ∧
      (((b : Int) - r).natAbs < ((a : Int) - r).natAbs → headEstimate f (some r) (some a) (some b) = .at_ b false true .arbitrated)) ∧
    (∀ x, headEstimate f x (some a) none = .at_ a true false .single ∧ headEstimate f x none (some b) = .at_ b false true .single) ∧
    headEstimate f (some r) none none = (if f.rep then .at_ r false false .reported else .fault .noPosition) ∧
    headEstimate f none none none = .fault .noPosition ∧
    (∀ (w : State) (x : Berth) (p : ProfileIx) (va vb : Option Nat) (why : AlignFault), x.profile = some p →
      (w.profile p).fields = some f → headEstimate f x.r va vb = .fault why →
      (w.align x va vb).state = .alignFault ∧ (w.align x va vb).fault = some why ∧ (w.align x va vb).map = [])

/-- R48, R50, R51: an entry of the door map pairs an eligible platform door with the train door it overlaps most, the lowest of equals,
where the overlap is at least Omin; and each such door has its entry. R47, R52 to R55: a run with a head position ends in OUT_OF_BERTH
for a stop outside the tolerances, in ALIGN_FAULT for an empty map, and else with the map, the uncovered list and the partial reasons
in ALIGNED or PARTIAL_HELD; the fields that R55 does not name stay as they were. -/
def Obligations.MapAndOutcomeFormed : Prop :=
  (∀ (s : State) (f : ProfileFields) (h : Nat) (cuts : List Nat) (doors : List TrainDoor),
      (s.formMap f h (eligibleTrain cuts doors)).Pairwise (fun a b => a.j < b.j) ∧
      ∀ (j : DoorIx) (k ov : Nat), ⟨j, k, ov⟩ ∈ s.formMap f h (eligibleTrain cuts doors) ↔
        ∃ e d, (s.door j).entry = some e ∧ (s.door j).custody ≠ .isolated ∧ 1 ≤ k ∧ doors[k - 1]? = some d ∧ k ∉ cuts ∧
          ov = overlap e h d ∧ f.omin ≤ ov ∧
          ∀ m x, 1 ≤ m → doors[m - 1]? = some x → m ∉ cuts → overlap e h x ≤ ov ∧ (m < k → overlap e h x < ov)) ∧
  (∀ (s : State) (b : Berth) (p : ProfileIx) (f : ProfileFields) (va vb : Option Nat) (h : Nat) (fa fb : Bool) (conf : Confidence),
    b.profile = some p → (s.profile p).fields = some f → headEstimate f b.r va vb = .at_ h fa fb conf → f.tstop ≤ f.tpartial →
    (s.align b va vb).sameTrain b ∧ (s.align b va vb).accepted = false ∧
    (f.tpartial < ((h : Int) - f.stop).natAbs →
      (s.align b va vb).ends .outOfBerth none (some .tolerance) (some ⟨h, fa, fb, conf, (h : Int) - f.stop, .outside⟩) ∧
      (s.align b va vb).map = [] ∧ (s.align b va vb).uncovered = [] ∧ (s.align b va vb).partials = ⟨false, false, false⟩) ∧
    (∀ cls : StopClass,
      (cls = .normal ∧ ((h : Int) - f.stop).natAbs ≤ f.tstop) ∨
        (cls = .wide ∧ f.tstop < ((h : Int) - f.stop).natAbs ∧ ((h : Int) - f.stop).natAbs ≤ f.tpartial) →
      (s.formMap f h (eligibleTrain b.cuts (s.profile p).doors) = [] →
        (s.align b va vb).ends .alignFault (some .noMatch) none (some ⟨h, fa, fb, conf, (h : Int) - f.stop, cls⟩) ∧
        (s.align b va vb).map = [] ∧ (s.align b va vb).uncovered = [] ∧ (s.align b va vb).partials = ⟨false, false, false⟩) ∧
      (s.formMap f h (eligibleTrain b.cuts (s.profile p).doors) ≠ [] →
        (s.align b va vb).map = s.formMap f h (eligibleTrain b.cuts (s.profile p).doors) ∧
        (s.align b va vb).uncovered.Pairwise (· < ·) ∧
        (∀ k : Nat, k ∈ (s.align b va vb).uncovered ↔
          1 ≤ k ∧ k ≤ (s.profile p).doors.length ∧ k ∉ b.cuts ∧
          ∀ x ∈ (s.align b va vb).map, x.k = k →
            (s.door x.j).custody ≠ .sequencer ∨ (s.door x.j).state = .fault ∨ (s.door x.j).state = .unknown) ∧
        ((s.align b va vb).partials.wide = true ↔ cls = .wide) ∧ ((s.align b va vb).partials.confidence = true ↔ conf ≠ .dual) ∧
        ((s.align b va vb).partials.uncovered = true ↔ (s.align b va vb).uncovered ≠ []) ∧
        (cls = .normal ∧ conf = .dual ∧ (s.align b va vb).uncovered = [] →
          (s.align b va vb).ends .aligned none none (some ⟨h, fa, fb, conf, (h : Int) - f.stop, cls⟩)) ∧
        (cls = .wide ∨ conf ≠ .dual ∨ (s.align b va vb).uncovered ≠ [] →
          (s.align b va vb).ends .partialHeld none none (some ⟨h, fa, fb, conf, (h : Int) - f.stop, cls⟩)))))

/-! Doors by command. -/

/-- R86, R87: OP acts on the map doors of its group by custody, supply and state, and on no other door. -/
def Obligations.OpenCommand : Prop :=
  ∀ (l : Link) (g : Nat) (s : State), g ≤ 15 → s.ready l .op → s.berth.state = .aligned → s.auth.hold = false →
    (s.berth.map.map MapEntry.j).Nodup →
    ∃ t, exec (.op l (g : Int)) s = .next t ∧
      t.replies l (.ok .op [numF g, numF ((s.opDoors g).filter fun i => ((s.door i).opEffect s.settings).2).length,
        numF ((s.opDoors g).filter fun i => !((s.door i).opEffect s.settings).2).length]) ∧
      (∀ i ∈ s.opDoors g,
        ((s.door i).custody ≠ .sequencer ∨ (s.door i).live.supply = true ∨ (s.door i).state = .unknown ∨ (s.door i).state = .fault →
          ((s.door i).opEffect s.settings).2 = false ∧ t.door i = s.door i) ∧
        ((s.door i).custody = .sequencer → (s.door i).live.supply = false →
          ((s.door i).state = .closedLocked ∨ (s.door i).state = .closedUnlocked →
            ((s.door i).opEffect s.settings).2 = true ∧ t.doorIs i .opening none .sequencer ∧
            (t.door i).timeout = some s.settings.opento ∧ (t.door i).opens = satInc 4294967295 (s.door i).opens ∧
            (t.door i).retry = (s.door i).retry) ∧
          ((s.door i).state = .warning ∨ (s.door i).state = .closing ∨ (s.door i).state = .paused →
            ((s.door i).opEffect s.settings).2 = true ∧ t.doorIs i .opening none .sequencer ∧
            (t.door i).timeout = some s.settings.opento ∧ (t.door i).retry = 0 ∧ (t.door i).opens = (s.door i).opens ∧
            (t.door i).warn = none ∧ (t.door i).maxHold = none ∧ (t.door i).pause = none ∧ (t.door i).lock = none) ∧
          ((s.door i).state = .opening ∨ (s.door i).state = .opened ∨ (s.door i).state = .reopening →
            ((s.door i).opEffect s.settings).2 = true ∧ t.door i = s.door i))) ∧
      s.otherDoors (s.opDoors g) t ∧ s.sameButHeard l [.doors] t ∧ s.inputsSame t

/-- R90, R91, R92: CL acts on the configured doors of its group by custody and state, and on no other door. R98: a door that it would
take to CLOSING on a low supply goes to FAULT, SUPPLY. -/
def Obligations.CloseCommand : Prop :=
  ∀ (l : Link) (g : Nat) (s : State), g ≤ 15 → s.ready l .cl → s.auth.hold = false →
    (∀ i ∈ s.clDoors g, (s.door i).custody = .emergency → (s.door i).rPlatform = false) →
    ∃ t, exec (.cl l (g : Int)) s = .next t ∧
      t.replies l (.ok .cl [numF g, numF ((s.clDoors g).filter fun i => ((s.door i).clEffect s.settings (s.warningHeld i)).2).length,
        numF ((s.clDoors g).filter fun i => !((s.door i).clEffect s.settings (s.warningHeld i)).2).length]) ∧
      (∀ i ∈ s.clDoors g,
        ((s.door i).custody ≠ .sequencer ∨ (s.door i).state = .unknown ∨ ((s.door i).state = .fault ∧ (s.door i).softFault = false) →
          ((s.door i).clEffect s.settings (s.warningHeld i)).2 = false ∧ t.door i = s.door i) ∧
        ((s.door i).custody = .sequencer →
          ((s.door i).state = .opened ∨ (s.door i).state = .opening ∨ (s.door i).state = .reopening ∨ (s.door i).state = .paused ∨
              ((s.door i).state = .fault ∧ (s.door i).softFault = true) →
            ((s.door i).clEffect s.settings (s.warningHeld i)).2 = true ∧ t.doorIs i .warning none .sequencer ∧
            (t.door i).warn = some s.settings.warn ∧ (t.door i).maxHold = some s.settings.maxhold ∧
            (t.door i).warnHeld = s.warningHeld i ∧ (t.door i).retry = 0 ∧ (t.door i).obstructed = false ∧
            (t.door i).timeout = none ∧ (t.door i).pause = none) ∧
          ((s.door i).state = .closedUnlocked → (s.door i).live.supply = false →
            ((s.door i).clEffect s.settings (s.warningHeld i)).2 = true ∧ t.doorIs i .closing none .sequencer ∧
            (t.door i).timeout = some s.settings.closeto ∧ (t.door i).retry = (s.door i).retry) ∧
          ((s.door i).state = .closedUnlocked → (s.door i).live.supply = true →
            ((s.door i).clEffect s.settings (s.warningHeld i)).2 = true ∧ (t.door i).state = .fault ∧
            (t.door i).fault = some .supply ∧ (t.door i).stopped ∧ (i ∉ s.rel.pendingMaint → (t.door i).custody = .sequencer)) ∧
          ((s.door i).state = .warning ∨ (s.door i).state = .closing ∨ (s.door i).state = .closedLocked →
            ((s.door i).clEffect s.settings (s.warningHeld i)).2 = true ∧ t.door i = s.door i))) ∧
      s.otherDoors (s.clDoors g) t ∧ t.berth.map = s.berth.map ∧ t.rel.active = s.rel.active ∧
      s.sameButHeard l [.doors, .trk, .rel] t ∧ s.inputsSame t

/-- R100, R102, R168: HD freezes the moving, warning and paused doors in SEQUENCER custody with their timers; RM returns them. -/
def Obligations.PlatformHold : Prop :=
  (∀ (l : Link) (s : State), s.ready l .hd → s.auth.hold = false →
    ∃ t, exec (.hd l) s = .next t ∧ t.auth = { s.heardAuth l with hold := true } ∧
      t.replies l (.ok .hd [numF (allDoors.filter fun i => (s.door i).freezable).length]) ∧
      (∀ i : DoorIx, (s.door i).freezable = true → (t.door i).state = .held ∧ (t.door i).heldFrom = some (s.door i).state ∧
        (t.door i).warn = (s.door i).warn ∧ (t.door i).warnHeld = (s.door i).warnHeld ∧ (t.door i).maxHold = (s.door i).maxHold ∧
        (t.door i).pause = (s.door i).pause ∧ (t.door i).timeout = (s.door i).timeout ∧ (t.door i).lock = (s.door i).lock ∧
        (t.door i).retry = (s.door i).retry ∧ (t.door i).custody = .sequencer) ∧
      s.otherDoors (allDoors.filter fun i => (s.door i).freezable) t ∧ s.sameButHeard l [.doors, .trk, .auth] t ∧ s.inputsSame t) ∧
  (∀ (l : Link) (s : State), s.ready l .hd → s.auth.hold = true →
    ∃ t, exec (.hd l) s = .next t ∧ t.replies l (.ok .hd ["0"]) ∧ s.sameButHeard l [] t ∧ s.inputsSame t) ∧
  (∀ (l : Link) (s : State), s.ready l .rm → s.auth.hold = true →
    ∃ t, exec (.rm l) s = .next t ∧ t.auth = { s.heardAuth l with hold := false } ∧
      t.replies l (.ok .rm [numF (allDoors.filter fun i => (s.door i).state == .held).length]) ∧
      (∀ (i : DoorIx) (st : DoorState), (s.door i).state = .held → (s.door i).heldFrom = some st →
        ((st = .opening ∨ st = .reopening ∨ st = .closing) → (s.door i).live.supply = false →
          (t.door i).state = st ∧ (t.door i).heldFrom = none ∧ (t.door i).timeout = (s.door i).timeout ∧
          (t.door i).lock = (s.door i).lock ∧ (t.door i).opens = (s.door i).opens) ∧
        ((st = .opening ∨ st = .reopening ∨ st = .closing) → (s.door i).live.supply = true →
          (t.door i).state = .fault ∧ (t.door i).fault = some .supply ∧ (t.door i).timeout = none) ∧
        (st = .paused → (t.door i).state = .paused ∧ (t.door i).pause = (s.door i).pause) ∧
        (st = .warning → (t.door i).state = .warning ∧ (t.door i).maxHold = (s.door i).maxHold ∧
          (t.door i).warnHeld = s.warningHeld i ∧
          (t.door i).warn = if s.warningHeld i then some s.settings.warn else (s.door i).warn)) ∧
      s.otherDoors (allDoors.filter fun i => (s.door i).state == .held) t ∧ s.sameButHeard l [.doors, .trk, .rel, .auth] t ∧
      s.inputsSame t)

/-! Release and maintenance. -/

/-- R134, R137: RT removes HANDLE and the door goes on as its reason set then stands; a door that is not pending (R142). R98: a door that
would open on a low supply goes to FAULT, SUPPLY, and that its opening from closed is counted all the same is the model's choice (log 22). -/
def Obligations.HandleRestored : Prop :=
  ∀ (l : Link) (i : DoorIx) (s : State), s.ready l .rt → (s.door i).configured = true → (s.door i).custody = .emergency →
    (s.door i).rHandle = true → (s.door i).live.handle = false → i ∉ s.rel.pendingMaint →
    ∃ t, exec (.rt l (ixInt i)) s = .next t ∧ t.replies l (.ok .rt [ixF i, (t.door i).custody.text, (t.door i).state.text]) ∧
      (t.door i).rHandle = false ∧ s.otherDoors [i] t ∧ s.sameButHeard l [.doors, .trk] t ∧ s.inputsSame t ∧
      ((s.door i).rPlatform = false →
        ((s.door i).retMaint = true → (t.door i).custody = .maint ∧ (t.door i).mOrder = .hold ∧ (t.door i).testPhase = .none) ∧
        ((s.door i).retMaint = false → s.rel.active = false → (t.door i).custody = .sequencer) ∧
        ((s.door i).retMaint = false → s.rel.active = true →
          s.berth.state = .aligned ∨ s.berth.state = .partialHeld ∨ s.berth.state = .movedOpen → s.berth.isMapDoor i = true →
          (t.door i).custody = .emergency ∧ (t.door i).rPlatform = true ∧
          (∀ st, (s.door i).state ≠ .fault → (s.door i).last = some st → st.code = 0 →
            (st.pos = .closed → st.supplyLow = false → (t.door i).state = .opening ∧ (t.door i).timeout = some s.settings.opento) ∧
            (st.pos = .closed → st.supplyLow = true → (t.door i).state = .fault ∧ (t.door i).fault = some .supply) ∧
            (st.pos = .closed → (t.door i).opens = satInc 4294967295 (s.door i).opens) ∧
            (st.pos ≠ .closed → (t.door i).state = resolve st ∧ (t.door i).opens = (s.door i).opens))) ∧
        ((s.door i).retMaint = true ∨ s.rel.active = false →
          ((s.door i).state = .fault → (t.door i).state = .fault ∧ (t.door i).fault = (s.door i).fault) ∧
          ((s.door i).state ≠ .fault → (s.door i).last = none → (t.door i).state = .unknown) ∧
          (∀ st, (s.door i).state ≠ .fault → (s.door i).last = some st →
            (st.code = 0 → (t.door i).state = resolve st) ∧
            (st.code ≠ 0 → (t.door i).state = .fault ∧ (t.door i).fault = some .drive)))) ∧
      ((s.door i).rPlatform = true → (t.door i).custody = .emergency ∧ (t.door i).rPlatform = true ∧
        ((s.door i).state = .fault → (t.door i).state = .fault ∧ (t.door i).fault = (s.door i).fault) ∧
        ((s.door i).state ≠ .fault → s.berth.isMapDoor i = true → (s.door i).live.supply = false →
          (t.door i).state = .opening ∧ (t.door i).timeout = some s.settings.opento ∧
          (t.door i).opens = if (s.door i).lastClosed then satInc 4294967295 (s.door i).opens else (s.door i).opens) ∧
        ((s.door i).state ≠ .fault → s.berth.isMapDoor i = true → (s.door i).live.supply = true →
          (t.door i).state = .fault ∧ (t.door i).fault = some .supply ∧ (t.door i).timeout = none ∧
          (t.door i).opens = if (s.door i).lastClosed then satInc 4294967295 (s.door i).opens else (s.door i).opens) ∧
        ((s.door i).state ≠ .fault → s.berth.isMapDoor i = false → (t.door i).state = (s.door i).resolved))

/-- R136, R137: EO sets the train release latch and, where the berth state lets them be taken, takes the map doors in SEQUENCER custody;
with the latch already set it changes nothing. R98: a door that would open on a low supply goes to FAULT, SUPPLY; that its opening from
closed is counted all the same (log 22), and that the reply in DEPARTING carries NOMAP too (log 25), is the model's choice. -/
def Obligations.EmergencyOpened : Prop :=
  (∀ (l : Link) (s : State), s.ready l .eo → s.rel.trainLatch = true →
    ∃ t, exec (.eo l) s = .next t ∧
      t.replies l (.ok .eo (if s.berth.state.takesRelease then ["0"] else ["0", "NOMAP"])) ∧
      s.sameButHeard l [] t ∧ s.inputsSame t) ∧
  (∀ (l : Link) (s : State), s.ready l .eo → s.rel.trainLatch = false →
    ∃ t, exec (.eo l) s = .next t ∧ t.rel.trainLatch = true ∧ t.rel.esrLatch = s.rel.esrLatch ∧ t.rel.esrTimer = s.rel.esrTimer ∧
      t.berth.map = s.berth.map ∧ s.sameButHeard l [.doors, .trk, .rel] t ∧ s.inputsSame t ∧
      (s.berth.state.takesRelease = false → t.replies l (.ok .eo ["0", "NOMAP"]) ∧ t.doors = s.doors ∧
        t.rel.pendingMaint = s.rel.pendingMaint) ∧
      (s.berth.state.takesRelease = true →
        t.replies l (.ok .eo [numF s.takenCount]) ∧
        (∀ k : DoorIx, s.berth.isMapDoor k = false ∨ (s.door k).custody ≠ .sequencer → t.door k = s.door k) ∧
        (∀ i : DoorIx, s.berth.isMapDoor i = true → (s.door i).custody = .sequencer →
          (t.door i).custody = .emergency ∧ (t.door i).rPlatform = true ∧ (t.door i).rHandle = false ∧
          (t.door i).retMaint = false ∧ i ∉ t.rel.pendingMaint ∧ (t.door i).retry = (s.door i).retry ∧
          ((s.door i).state = .closedLocked ∨ (s.door i).state = .closedUnlocked → (s.door i).live.supply = false →
            (t.door i).state = .opening ∧ (t.door i).timeout = some s.settings.opento ∧
            (t.door i).opens = satInc 4294967295 (s.door i).opens) ∧
          ((s.door i).state = .opening ∨ (s.door i).state = .reopening ∨ (s.door i).state = .warning ∨ (s.door i).state = .closing ∨
              (s.door i).state = .paused ∨ (s.door i).state = .held → (s.door i).live.supply = false →
            (t.door i).state = .opening ∧ (t.door i).timeout = some s.settings.opento ∧ (t.door i).opens = (s.door i).opens) ∧
          ((s.door i).state = .opened ∨ (s.door i).state = .unknown ∨ (s.door i).state = .fault →
            (t.door i).state = (s.door i).state ∧ (t.door i).fault = (s.door i).fault) ∧
          ((s.door i).state ≠ .opened → (s.door i).state ≠ .unknown → (s.door i).state ≠ .fault → (s.door i).state ≠ .released →
            (s.door i).live.supply = true →
            (t.door i).state = .fault ∧ (t.door i).fault = some .supply ∧ (t.door i).stopped ∧
            (t.door i).opens = if (s.door i).state = .closedLocked ∨ (s.door i).state = .closedUnlocked then
              satInc 4294967295 (s.door i).opens else (s.door i).opens))))

/-- R140: ER, with the reset-permit input active and ESR inactive, clears both latches and every PLATFORM reason; doors that hold
PLATFORM are not pending (R142). R167, R188: refused, it changes nothing but the level of its input. That the row carries that level,
else the level last given stands, is the model's choice (log 6). -/
def Obligations.EmergencyReset : Prop :=
  (∀ (l : Link) (p : Option Bool) (s : State), s.alive = true → (s.port l).idle → l ≠ .panel ∨ p.getD s.power.permit = false →
    ∃ t, exec (.er l p) s = .next t ∧ t.replies l (.no "ER" .auth) ∧
      t.power = { s.power with permit := p.getD s.power.permit } ∧ s.sameButHeard l [.power] t ∧ s.inputsSame t) ∧
  (∀ (p : Option Bool) (s : State), s.alive = true → s.ports.panel.idle → p.getD s.power.permit = true →
    (s.start.phase = .starting → ∃ t, exec (.er .panel p) s = .next t ∧ t.replies .panel (.no "ER" .starting) ∧
      t.power = { s.power with permit := true } ∧ s.sameBut [.power] t ∧ s.inputsSame t) ∧
    (s.start.phase ≠ .starting → s.power.esr = true → ∃ t, exec (.er .panel p) s = .next t ∧ t.replies .panel (.no "ER" .state) ∧
      t.power = { s.power with permit := true } ∧ s.sameBut [.power] t ∧ s.inputsSame t)) ∧
  (∀ (p : Option Bool) (s : State), s.alive = true → s.ports.panel.idle → p.getD s.power.permit = true → s.start.phase ≠ .starting →
    s.power.esr = false → (∀ i : DoorIx, (s.door i).rPlatform = true → i ∉ s.rel.pendingMaint) →
    ∃ t, exec (.er .panel p) s = .next t ∧ t.rel.esrLatch = false ∧ t.rel.trainLatch = false ∧ t.rel.esrTimer = none ∧
      t.replies .panel (.ok .er [numF (allDoors.filter fun i => (s.door i).rPlatform && !(s.door i).rHandle).length]) ∧
      (∀ i : DoorIx, (t.door i).rPlatform = false) ∧
      (∀ i : DoorIx, (s.door i).rPlatform = false → t.door i = s.door i) ∧
      (∀ i : DoorIx, (s.door i).rPlatform = true →
        ((s.door i).rHandle = true → t.doorIs i (s.door i).state (s.door i).fault (s.door i).custody ∧ (t.door i).rHandle = true) ∧
        ((s.door i).rHandle = false → (t.door i).custody = .sequencer ∧
          ((s.door i).state = .unknown → (t.door i).state = .unknown) ∧
          ((s.door i).state = .fault → (s.door i).softFault = false →
            (t.door i).state = .fault ∧ (t.door i).fault = (s.door i).fault) ∧
          ((s.door i).state ≠ .unknown → ((s.door i).state = .fault → (s.door i).softFault = true) →
            (t.door i).state = .opened ∧ (t.door i).fault = none ∧ (t.door i).timeout = none))) ∧
      s.sameBut [.power, .doors, .trk, .rel] t ∧ s.inputsSame t)

/-- R141, R143: MQ grants a door that is free, or queues the request at the end of the list, or answers the place of a request already
on it; MC takes a request off it. -/
def Obligations.MaintenanceRequested : Prop :=
  (∀ (l : Link) (i : DoorIx) (s : State), s.ready l .mq → (s.door i).configured = true → (s.door i).custody = .sequencer →
    i ∉ s.rel.pendingMaint →
    (s.grantable i = true → ∃ t, exec (.mq l (ixInt i)) s = .next t ∧ t.replies l (.ok .mq [ixF i, "GRANTED"]) ∧
      t.doorIs i (s.door i).state (s.door i).fault .maint ∧ (t.door i).stopped ∧ (t.door i).mOrder = .hold ∧
      (t.door i).testPhase = .none ∧ (t.door i).retry = (s.door i).retry ∧ s.otherDoors [i] t ∧ s.sameButHeard l [.doors] t ∧
      s.inputsSame t) ∧
    (s.grantable i = false → ∃ t, exec (.mq l (ixInt i)) s = .next t ∧
      t.replies l (.ok .mq [ixF i, "PENDING", numF (s.rel.pendingMaint.length + 1)]) ∧
      t.rel = { s.rel with pendingMaint := s.rel.pendingMaint ++ [i] } ∧ s.sameButHeard l [.rel] t ∧ s.inputsSame t)) ∧
  (∀ (l : Link) (n : Nat) (i : DoorIx) (s : State), s.ready l .mq → (s.door i).configured = true → (s.door i).custody = .sequencer →
    s.rel.pendingMaint[n]? = some i → i ∉ s.rel.pendingMaint.take n →
    ∃ t, exec (.mq l (ixInt i)) s = .next t ∧ t.replies l (.ok .mq [ixF i, "PENDING", numF (n + 1)]) ∧
      s.sameButHeard l [] t ∧ s.inputsSame t) ∧
  (∀ (l : Link) (i : DoorIx) (s : State), s.ready l .mc → (s.door i).configured = true → i ∈ s.rel.pendingMaint →
    ∃ t, exec (.mc l (ixInt i)) s = .next t ∧ t.replies l (.ok .mc [ixF i]) ∧
      t.rel = { s.rel with pendingMaint := s.rel.pendingMaint.filter (· != i) } ∧ s.sameButHeard l [.rel] t ∧ s.inputsSame t)

/-- R144, R145, R146, R148: MO sets the maintenance order, TC starts a test cycle, which a low supply aborts at once, MR returns the door
to service, where a release that stands takes it at once (R137), into FAULT on a low supply (R98), its opening being counted all the same by the
model's choice (log 22); a door not pending (R142).
R107: DR resets a door in MAINT or ISOLATED custody as a unit, and keeps custody, maintenance order and service record. -/
def Obligations.MaintenanceWorked : Prop :=
  (∀ (l : Link) (i : DoorIx) (o : MaintOrder) (s : State), s.ready l .mo → (s.door i).configured = true →
    (s.door i).custody = .maint → (s.door i).testPhase = .none → (s.door i).state ≠ .unknown → (s.door i).state ≠ .fault →
    ∃ t, exec (.mo l (ixInt i) (.is o)) s = .next t ∧ t.replies l (.ok .mo [ixF i, maintOrderName o]) ∧
      t.door i = { s.door i with mOrder := o } ∧ s.otherDoors [i] t ∧ s.sameButHeard l [.doors] t ∧ s.inputsSame t) ∧
  (∀ (l : Link) (i : DoorIx) (s : State), s.ready l .tc → (s.door i).configured = true → (s.door i).custody = .maint →
    (s.door i).testPhase = .none → (s.door i).state = .closedLocked → (s.door i).live.supply = false →
    ∃ t, exec (.tc l (ixInt i)) s = .next t ∧ t.replies l (.ok .tc [ixF i]) ∧ t.doorIs i .opening none .maint ∧
      (t.door i).mOrder = .opn ∧ (t.door i).testPhase = .opening ∧
      (t.door i).test = some { timer := s.settings.opento, elapsed := 0, lock := none, openTime := none, closeTime := none, peak := 0 } ∧
      (t.door i).opens = (s.door i).opens ∧ s.otherDoors [i] t ∧ s.sameButHeard l [.doors, .trk] t ∧ s.inputsSame t) ∧
  (∀ (l : Link) (i : DoorIx) (s : State), s.ready l .tc → (s.door i).configured = true → (s.door i).custody = .maint →
    (s.door i).testPhase = .none → (s.door i).state = .closedLocked → (s.door i).live.supply = true → i ∉ s.rel.pendingMaint →
    ∃ t, exec (.tc l (ixInt i)) s = .next t ∧ t.replies l (.ok .tc [ixF i]) ∧ t.doorIs i .fault (some .supply) .maint ∧
      (t.door i).mOrder = .hold ∧ (t.door i).testPhase = .none ∧ (t.door i).test = none ∧
      (t.door i).lastTest = some { result := .aborted, openTime := none, closeTime := none, peak := 0 } ∧
      s.otherDoors [i] t ∧ s.sameButHeard l [.doors, .trk] t ∧ s.inputsSame t) ∧
  (∀ (l : Link) (i : DoorIx) (s : State), s.ready l .mr → (s.door i).configured = true → (s.door i).custody = .maint →
    (s.door i).testPhase = .none → (s.door i).state = .closedLocked →
    s.rel.active = false ∨ s.berth.isMapDoor i = false ∨ s.berth.state.takesRelease = false →
    ∃ t, exec (.mr l (ixInt i)) s = .next t ∧ t.replies l (.ok .mr [ixF i]) ∧
      t.door i = { s.door i with custody := .sequencer, mOrder := .hold, lockedSince := none } ∧ s.otherDoors [i] t ∧
      s.sameButHeard l [.doors] t ∧ s.inputsSame t) ∧
  (∀ (l : Link) (i : DoorIx) (s : State), s.ready l .mr → (s.door i).configured = true → (s.door i).custody = .maint →
    (s.door i).testPhase = .none → (s.door i).state = .closedLocked → s.rel.active = true → s.berth.isMapDoor i = true →
    s.berth.state.takesRelease = true → i ∉ s.rel.pendingMaint →
    ∃ t, exec (.mr l (ixInt i)) s = .next t ∧ t.replies l (.ok .mr [ixF i]) ∧ (t.door i).custody = .emergency ∧
      (t.door i).rPlatform = true ∧ (t.door i).rHandle = false ∧ (t.door i).retMaint = false ∧ (t.door i).mOrder = .hold ∧
      (t.door i).opens = satInc 4294967295 (s.door i).opens ∧
      ((s.door i).live.supply = false → (t.door i).state = .opening ∧ (t.door i).timeout = some s.settings.opento) ∧
      ((s.door i).live.supply = true → (t.door i).state = .fault ∧ (t.door i).fault = some .supply) ∧
      s.otherDoors [i] t ∧ s.sameButHeard l [.doors, .trk] t ∧ s.inputsSame t) ∧
  (∀ (l : Link) (i : DoorIx) (e : DoorEntry) (s : State), s.ready l .dr → (s.door i).entry = some e → 1 ≤ e.blank →
     (s.door i).custody = .maint ∨ (s.door i).custody = .isolated → (s.door i).testPhase = .none →
     ∃ t, exec (.dr l (ixInt i)) s = .next t ∧ t.replies l (.ok .dr [ixF i]) ∧
       t.doorIs i .unknown none (s.door i).custody ∧ (t.door i).stopped ∧ (t.door i).misses = 0 ∧ (t.door i).ovf = 0 ∧
       (t.door i).last = none ∧ (t.door i).latTrain = Conds.clear ∧ (t.door i).latStation = Conds.clear ∧
       (t.door i).latPanel = Conds.clear ∧ (t.door i).live = Conds.clear ∧ (t.door i).retry = 0 ∧ (t.door i).obstructed = false ∧
       (t.door i).lockedSince = none ∧ (t.door i).mOrder = (s.door i).mOrder ∧ (t.door i).opens = (s.door i).opens ∧
       (t.door i).obstacles = (s.door i).obstacles ∧ (t.door i).lastTest = (s.door i).lastTest ∧ (t.door i).entry = some e ∧
       s.otherDoors [i] t ∧ s.sameButHeard l [.doors, .trk] t ∧ s.inputsSame t)

/-- R149, R150: IS takes a door into ISOLATED custody and keeps its state; IU takes it into MAINT custody, or by an operated handle into
EMERGENCY custody; a door not pending (R142). -/
def Obligations.DoorIsolated : Prop :=
  (∀ (l : Link) (i : DoorIx) (w : Option (Kw Unit)) (s : State), s.ready l .isol → (s.door i).configured = true →
    (s.door i).custody = .sequencer ∨ (s.door i).custody = .maint → (s.door i).testPhase = .none → w ≠ some .unknown →
    ((s.door i).state = .closedLocked ∨ (w.isSome = true ∧ ((s.door i).state = .fault ∨ (s.door i).state = .unknown))) →
    ∃ t, exec (.isol l (ixInt i) w) s = .next t ∧ t.replies l (.ok .isol [ixF i, (s.door i).state.text]) ∧
      t.doorIs i (s.door i).state (s.door i).fault .isolated ∧ (t.door i).mOrder = .hold ∧ (t.door i).stopped ∧
      i ∉ t.rel.pendingMaint ∧ s.otherDoors [i] t ∧ s.sameButHeard l [.doors, .rel] t ∧ s.inputsSame t) ∧
  (∀ (l : Link) (i : DoorIx) (s : State), s.ready l .iu → (s.door i).configured = true → (s.door i).custody = .isolated →
    i ∉ s.rel.pendingMaint →
    ∃ t, exec (.iu l (ixInt i)) s = .next t ∧ t.replies l (.ok .iu [ixF i, (t.door i).custody.text, (t.door i).state.text]) ∧
      ((s.door i).live.handle = false → (t.door i).custody = .maint ∧ (t.door i).mOrder = .hold ∧ (t.door i).testPhase = .none ∧
        ((s.door i).hardFault = true → (t.door i).state = .fault ∧ (t.door i).fault = (s.door i).fault) ∧
        ((s.door i).hardFault = false → (t.door i).state = (s.door i).resolved ∧ (t.door i).fault = none)) ∧
      ((s.door i).live.handle = true → t.doorIs i .released none .emergency ∧ (t.door i).rHandle = true ∧
        (t.door i).retMaint = true) ∧
      s.otherDoors [i] t ∧ s.sameButHeard l [.doors, .trk] t ∧ s.inputsSame t)

/-! Heads and ports by command. -/

/-- R124, R125, R109: HW withdraws a head and its frames, HJ rejoins it. -/
def Obligations.HeadWithdrawn : Prop :=
  (∀ (l : Link) (h : HeadIx) (s : State), s.ready l .hw → (s.berth.state.holdsMap = true → s.servesMap h = false) →
    ∃ t, exec (.hw l (ixInt h)) s = .next t ∧ t.replies l (.ok .hw [ixF h]) ∧
      t.head h = ({ s.head h with withdrawn := true } : Head).dropFrames ∧ (t.head h).state = .withdrawn ∧
      (∀ (z : ZoneIx) (x : Zone), s.zone z = some x → x.cfg.head = h → x.cfg.en = true →
        ∃ y, t.zone z = some y ∧ y.state = .unknown ∧ y.hits = 0 ∧ y.clears = 0) ∧
      s.otherHeads h t ∧ s.sameButHeard l [.sense, .doors] t ∧ s.inputsSame t) ∧
  (∀ (l : Link) (h : HeadIx) (s : State), s.ready l .hj → (s.head h).withdrawn = true →
    ∃ t, exec (.hj l (ixInt h)) s = .next t ∧ t.replies l (.ok .hj [ixF h, (t.head h).state.text]) ∧
      (t.head h).withdrawn = false ∧ (t.head h).skipped = (s.berth.state.holdsMap && !s.servesMap h) ∧ (t.head h).f = (s.head h).f ∧
      s.otherHeads h t ∧ s.sameButHeard l [.sense, .doors] t ∧ s.inputsSame t)

/-- R126, R174: a PT is in hand from the moment it is taken; with no slot in progress its MAINT request goes out at once. The reply from
its head, or the end of its timer, answers it; that the latter acts whatever time remains is the model's choice (log 2). A line that
completes while a request is in hand is held, one more is answered BUSY, and the held line is taken when the PT has its reply: it does
what it does at an idle link, and its reply stands behind that of the PT. -/
def Obligations.PassThroughExchange : Prop :=
  (∀ (h : HeadIx) (bytes : List Byte) (s : State), s.ready .panel .pt → (s.head h).withdrawn = true → 1 ≤ bytes.length →
    bytes.length ≤ 16 →
    ∃ t, exec (.pt .panel (ixInt h) bytes) s = .next t ∧ t.ports.panel.inHand = true ∧ t.ports.panel.held = none ∧
      t.sense.scan.pt = some { head := h, frame := maintRequest h bytes, wait := if s.sense.scan.slot.isSome then none else some 50 } ∧
      t.sense.heads = s.sense.heads ∧ t.sense.zones = s.sense.zones ∧ t.sense.scan.slot = s.sense.scan.slot ∧
      s.sameButHeard .panel [.sense] t) ∧
  (∀ (pt : PassThrough) (w : Nat) (payload : List Byte) (s : State), s.alive = true → s.sense.scan.pt = some pt → pt.wait = some w →
    payload.length ≤ 16 → s.ports.panel.sending = none → s.ports.panel.replies = [none] → s.ports.panel.held = none →
    ∃ t, exec (.ptReply (maintReply pt.head payload)) s = .next t ∧ t.sense = { s.sense with scan := { s.sense.scan with pt := none } } ∧
      t.ports.panel.inHand = false ∧
      t.replies .panel (.ok .pt ([ixF pt.head, numF payload.length] ++ payload.map byteF)) ∧ s.sameBut [.sense] t) ∧
  (∀ (pt : PassThrough) (w : Nat) (s : State), s.alive = true → s.sense.scan.pt = some pt → pt.wait = some w →
    s.ports.panel.sending = none → s.ports.panel.replies = [none] → s.ports.panel.held = none →
    ∃ t, exec .ptTimeout s = .next t ∧ t.sense = { s.sense with scan := { s.sense.scan with pt := none } } ∧
      t.ports.panel.inHand = false ∧ t.replies .panel (.no "PT" .timeout) ∧ s.sameBut [.sense] t) ∧
  (∀ (l : Link) (v : Verb) (i : Instr) (rest : List (Option Reply)) (s : State), s.alive = true → linkOf i = some l → verbOf i = some v →
    (s.port l).inHand = true → (s.port l).replies = none :: rest →
    ∃ t, exec i s = .next t ∧ s.sameBut [] t ∧ (t.port l).inHand = true ∧
      (∀ k : Link, k ≠ l → (s.port k).inputSame (t.port k)) ∧
      ((s.port l).held = none → (t.port l).held = some (lineOf v i) ∧ (t.port l).replies = none :: rest ++ [none]) ∧
      (∀ x, (s.port l).held = some x → (t.port l).held = some x ∧
        (t.port l).replies = none :: rest ++ [some (.no "--" .busy)])) ∧
  (∀ (pt : PassThrough) (w : Nat) (payload : List Byte) (i : Instr) (r : Reply) (s u : State), s.alive = true →
    s.sense.scan.pt = some pt → pt.wait = some w → payload.length ≤ 16 → s.ports.panel.sending = none →
    s.ports.panel.replies = [none, none] → s.ports.panel.held = some (.record i) → linkOf i = some .panel → formReason i = none →
    exec i s.ptAnswered = .next u → u.replies .panel r →
    (∃ t, exec (.ptReply (maintReply pt.head payload)) s = .next t ∧
      t.ports.panel.sending = some (.reply (.ok .pt ([ixF pt.head, numF payload.length] ++ payload.map byteF))) ∧
      t.ports.panel.replies = [some r] ∧ t.ports.panel.inHand = false ∧ t.ports.panel.held = none ∧ u.sameBut [] t) ∧
    (∃ t, exec .ptTimeout s = .next t ∧ t.ports.panel.sending = some (.reply (.no "PT" .timeout)) ∧
      t.ports.panel.replies = [some r] ∧ t.ports.panel.inHand = false ∧ t.ports.panel.held = none ∧ u.sameBut [] t))

/-- R177, R180, R183: LM sets the sending link's mask, WA its watch, LC clears its port; the other links keep their settings. R185, R189:
RS is answered and nothing else happens yet; RU brings CONFIG_FAULT to RUNNING. -/
def Obligations.PortRecords : Prop :=
  (∀ (l : Link) (a b c : Option Bool) (safety : Option Unit) (s : State), s.ready l .lm →
    ∃ t, exec (.lm l (safety.map fun _ => .is true) (a.map .is) (b.map .is) (c.map .is)) s = .next t ∧
      (t.port l).mask = ⟨a.getD (s.port l).mask.secure, b.getD (s.port l).mask.state, c.getD (s.port l).mask.info⟩ ∧
      (∀ r ∈ (t.port l).queue, (t.port l).mask.admits r.kind.cls = true) ∧
      t.replies l (.ok .lm ("YES" :: [yesNoF (t.port l).mask.secure, yesNoF (t.port l).mask.state, yesNoF (t.port l).mask.info])) ∧
      (∀ k : Link, k ≠ l → (s.port k).inputSame (t.port k)) ∧ s.sameButHeard l [] t) ∧
  (∀ (l : Link) (a : WatchArg) (o : WatchObj) (s : State), s.ready l .wa → s.watchTarget a = .ok (some o) →
    ∃ t, exec (.wa l (.is a)) s = .next t ∧ (t.port l).watch = some o ∧ t.replies l (.ok .wa o.textF) ∧
      (t.port l).mask = (s.port l).mask ∧ (∀ k : Link, k ≠ l → (s.port k).inputSame (t.port k)) ∧ s.sameButHeard l [] t) ∧
  (∀ (l : Link) (s : State), s.ready l .wa →
    ∃ t, exec (.wa l (.is .none)) s = .next t ∧ (t.port l).watch = none ∧ (∀ r ∈ (t.port l).queue, r.kind ≠ .watch) ∧
      t.replies l (.ok .wa ["NONE"]) ∧ (∀ k : Link, k ≠ l → (s.port k).inputSame (t.port k)) ∧ s.sameButHeard l [] t) ∧
  (∀ (l : Link) (s : State), s.ready l .lc → s.secureCurrent →
    ∃ t, exec (.lc l) s = .next t ∧ (t.port l).watch = none ∧ (t.port l).loss = false ∧ (t.port l).mask = (s.port l).mask ∧
      (t.port l).buf = [] ∧ (t.port l).discarding = false ∧ (t.port l).lineTimer = none ∧ (t.port l).mapCur = ⟨0, false⟩ ∧
      (t.port l).ulCur = ⟨0, false⟩ ∧ (t.port l).listCur = ⟨.none, 0, false⟩ ∧ (l ≠ .panel ∨ s.rel.pendingMaint = [] → (t.port l).queue = []) ∧
      (l = .panel → t.rel.pendingMaint = []) ∧ (l ≠ .panel → t.rel = s.rel) ∧ t.replies l (.ok .lc []) ∧
      (∀ p : ProfileIx, t.profile p =
        if s.ownsEdit (.link l) = some p then { s.profile p with state := .invalid .abandoned } else s.profile p) ∧
      (s.ownsEdit (.link l) ≠ none → t.cfg.edit = none) ∧ (s.ownsEdit (.link l) = none → t.cfg.edit = s.cfg.edit) ∧
      t.settings = s.settings ∧ (∀ k : Link, k ≠ l → (s.port k).inputSame (t.port k)) ∧ s.sameButHeard l [.cfg, .rel] t) ∧
  (∀ (l : Link) (s : State), s.ready l .rs →
    ∃ t, exec (.rs l) s = .next t ∧ t.replies l (.ok .rs []) ∧ s.sameButHeard l [] t ∧ s.inputsSame t) ∧
  (∀ (l : Link) (s : State), s.ready l .ru → s.start.phase = .configFault → s.configuredDoors ≠ [] →
    (∀ p : ProfileIx, (s.profile p).state = .empty ∨ (s.profile p).state = .valid) →
    ∃ t, exec (.ru l) s = .next t ∧ t.start = { s.start with phase := .running } ∧ t.replies l (.ok .ru ["RUNNING"]) ∧
      .starting ∉ t.sec.reasons ∧ s.sameButHeard l [.start] t ∧ s.inputsSame t)

/-! Reports of the classes SECURE, STATE and INFO. -/

/-- R40, R123, R157, R168, R169, R110: a command that changes the berth record, a head's state, the flag or the reasons of the status, or
the effective authority, the latch or the hold tells every link of it by BERTH, HEAD, SECURE and AUTH (R176, R178), but for the commands
of the ports, the removals, the resets and the script; ZONE at an old frame. R157, R180: a link is told of each change of the full status of
what it watches, and at WA. Which fields the reports carry is in part the model's choice (log 13), and so is that a change of a zone's
runs or last count alone counts as one (log 10), that a SECURE report shows the record at the end of its event (log 12) and that the timers' commands act whatever time remains (log 2). -/
def Obligations.StatusReportsQueued : Prop :=
  (∀ (c : Instr) (s t : State), writesInputs c = false → s.alive = true → s.secureCurrent → (∀ l : Link, (s.port l).inHand = false) →
    exec c s = .next t →
    (s.berth ≠ t.berth → s.tells t (berthReport t.berth)) ∧
    (∀ h : HeadIx, (s.head h).state ≠ (t.head h).state → s.tells t (headReport h (t.head h))) ∧
    (s.sec.flag ≠ t.sec.flag ∨ s.sec.reasons ≠ t.sec.reasons → s.tells t t.sec.report) ∧
    (s.auth.effective ≠ t.auth.effective ∨ s.auth.fallback ≠ t.auth.fallback ∨ s.auth.hold ≠ t.auth.hold →
      s.tells t (authReport t.auth))) ∧
  (∀ (c : Instr) (s t : State), writesInputs c = false → s.alive = true → (∀ l : Link, (s.port l).inHand = false) →
    exec c s = .next t → ∀ (k : Link) (o : WatchObj), (s.port k).watch = some o → o ≠ .secure → s.fullF k o ≠ t.fullF k o →
    s.tellsOn t k (watchReport o (t.fullF k o))) ∧
  (∀ (l : Link) (a : WatchArg) (o : WatchObj) (s : State), s.ready l .wa → s.secureCurrent → s.watchTarget a = .ok (some o) →
    ∃ t, exec (.wa l (.is a)) s = .next t ∧ s.tellsOn t l (watchReport o (s.fullF l o))) ∧
  (∀ (p : Poll) (i : DoorIx) (e : DoorEntry) (st : Status) (s : State), s.alive = true → s.bus.poll = some p → p.discard = false →
    p.door = i → (s.door i).entry = some e → st.code < 16 → st.current < 256 → i ∉ s.rel.pendingMaint →
    ∃ t, exec (.doorGoodReply (statusFrame i st)) s = .next t ∧
      (s.secureCurrent → s.sec.flag ≠ t.sec.flag ∨ s.sec.reasons ≠ t.sec.reasons → s.tells t t.sec.report) ∧
      (s.secureCurrent → s.sec ≠ t.sec → ∀ k : Link, (s.port k).watch = some .secure →
        s.tellsOn t k (watchReport .secure t.sec.fullF))) ∧
  (∀ (l : Link) (s : State), s.ready l .eo → s.rel.trainLatch = false →
    ∃ t, exec (.eo l) s = .next t ∧
      (s.secureCurrent → s.sec.flag ≠ t.sec.flag ∨ s.sec.reasons ≠ t.sec.reasons → s.tells t t.sec.report)) ∧
  (∀ (l : Link) (h : HeadIx) (s : State), s.ready l .hw → (s.berth.state.holdsMap = true → s.servesMap h = false) →
    (s.head h).withdrawn = false →
    ∃ t, exec (.hw l (ixInt h)) s = .next t ∧ s.tells t (headReport h (t.head h))) ∧
  (∀ (h : HeadIx) (z : ZoneIx) (x : Zone) (s : State), s.alive = true → (s.head h).visited = true → (s.head h).age.isSome = true →
    (s.head h).stale = false → s.zone z = some x → x.cfg.head = h → x.cfg.en = true → x.state ≠ .unknown →
    ∃ t, exec (.frameAgeExpiry (ixNat h)) s = .next t ∧ s.tells t (zoneReport z { x with state := .unknown } s.gapDepth)) ∧
  (∀ (l : Link) (s : State), s.ready l .hd → s.auth.hold = false →
    ∃ t, exec (.hd l) s = .next t ∧ s.tells t (authReport t.auth)) ∧
  (∀ s : State, s.alive = true → s.auth.supv.isSome = true → s.auth.stage = .late →
    ∃ t, exec .supervisionExpiry s = .next t ∧ s.tells t (authReport t.auth)) ∧
  (∀ (auto loc maint : Bool) (s : State), s.alive = true →
    (s.power.auto ≠ auto ∨ s.power.loc ≠ loc ∨ s.power.maint ≠ maint) →
    ∃ t, exec (.keyInputChange auto loc maint) s = .next t ∧
      (s.auth.effective ≠ t.auth.effective ∨ s.auth.fallback ≠ t.auth.fallback → s.tells t (authReport t.auth))) ∧
  (∀ s : State, s.ready .train .dp → s.berth.state ≠ .empty → s.berth.state ≠ .approach →
    ∃ t, exec (.dp .train) s = .next t ∧ (s.berth ≠ t.berth → s.tells t (berthReport t.berth))) ∧
  (∀ (l : Link) (s : State), s.ready l .ac → s.berth.state = .partialHeld →
    ∃ t, exec (.ac l) s = .next t ∧ s.tells t (berthReport t.berth))

/-- R5, R68, R69, R78, R85, R87, R89, R91, R94, R131, R137, R140, R145, R146, R149: DOOR reports at a reply, the third miss, the end of a
warning, EO, OP, CL, DC, DX and DR, CUSTODY at a reply that operates the handle, EO, ER, MO, MQ, TC, MR, IS, the end of a test's time and a
DX that changes the custody record (R130), OBSTACLE at a reply and TEST at its end tell every link (R176, R178), for a door that is not
pending (R142). Which fields the reports carry, and in which order, is in part the model's choice (logs 13, 23 and 35), and so is that the timers' commands act whatever time remains
(log 2). -/
def Obligations.DoorReportsQueued : Prop :=
  (∀ (p : Poll) (i : DoorIx) (e : DoorEntry) (st : Status) (s : State), s.alive = true → s.bus.poll = some p → p.discard = false →
    p.door = i → (s.door i).entry = some e → st.code < 16 → st.current < 256 → i ∉ s.rel.pendingMaint →
    ∃ t, exec (.doorGoodReply (statusFrame i st)) s = .next t ∧
      ((s.door i).viewSame (t.door i) = false → (s.door i).state ≠ .released ∨ (s.door i).custody = .emergency →
        s.tells t (doorReport i (t.door i))) ∧
      ((s.door i).custody = .sequencer → (s.door i).misses ≠ 3 → st.code = 0 →
        e.blank ≤ (if st.overForce then satInc 8 (s.door i).ovf else 0) →
        ((s.door i).state = .closing → st.pos ≠ .closed ∨ st.locked = false →
          s.tells t (obstacleCloseReport i (min ((s.door i).retry + 1) (e.retry + 1)) e.retry st.current)) ∧
        ((s.door i).state = .opening ∨ (s.door i).state = .reopening → st.pos ≠ .openEnd →
          s.tells t (obstacleOpenReport i (s.door i).state st.current)))) ∧
  (∀ (p : Poll) (how : PollEnd) (k : MissKind) (i : DoorIx) (s : State), s.alive = true → s.bus.poll = some p → p.discard = false →
    p.door = i → judgePoll i how = .miss k → (s.door i).misses = 2 → i ∉ s.rel.pendingMaint →
    ∃ t, exec (.doorMiss how) s = .next t ∧ s.tells t (doorReport i (t.door i))) ∧
  (∀ (i : DoorIx) (s : State), s.alive = true → (s.door i).state = .warning → (s.door i).warn.isSome = true →
    (s.door i).warnHeld = false → i ∉ s.rel.pendingMaint →
    ∃ t, exec (.warningExpiry (ixNat i)) s = .next t ∧ s.tells t (doorReport i (t.door i))) ∧
  (∀ (i : DoorIx) (c : TestCtx) (s : State), s.alive = true → (s.door i).test = some c → (s.door i).testPhase = .opening →
    i ∉ s.rel.pendingMaint →
    ∃ t, exec (.testOpenTimeout (ixNat i)) s = .next t ∧ s.tells t (testReport i (c.record .openTimeout)) ∧
      s.tells t (custodyReport i (t.door i) t.rel.pendingMaint [])) ∧
  (∀ (l : Link) (s : State), s.ready l .eo → s.rel.trainLatch = false →
    ∃ t, exec (.eo l) s = .next t ∧
      (s.berth.state.takesRelease = true → ∀ i : DoorIx, s.berth.isMapDoor i = true → (s.door i).custody = .sequencer →
        s.tells t (custodyReport i (t.door i) t.rel.pendingMaint ["RELEASE"]) ∧ s.tells t (doorReport i (t.door i)))) ∧
  (∀ (l : Link) (i : DoorIx) (o : MaintOrder) (s : State), s.ready l .mo → (s.door i).configured = true →
    (s.door i).custody = .maint → (s.door i).testPhase = .none → (s.door i).state ≠ .unknown → (s.door i).state ≠ .fault →
    (s.door i).mOrder ≠ o →
    ∃ t, exec (.mo l (ixInt i) (.is o)) s = .next t ∧ s.tells t (custodyReport i (t.door i) t.rel.pendingMaint ["MO"])) ∧
  (∀ (l : Link) (i : DoorIx) (s : State), s.ready l .mq → (s.door i).configured = true → (s.door i).custody = .sequencer →
    i ∉ s.rel.pendingMaint →
    ∃ t, exec (.mq l (ixInt i)) s = .next t ∧
      s.tells t (custodyReport i (t.door i) t.rel.pendingMaint (if s.grantable i then ["GRANT"] else []))) ∧
  (∀ (l : Link) (i : DoorIx) (s : State), s.ready l .tc → (s.door i).configured = true → (s.door i).custody = .maint →
    (s.door i).testPhase = .none → (s.door i).state = .closedLocked → i ∉ s.rel.pendingMaint →
    ∃ t, exec (.tc l (ixInt i)) s = .next t ∧ s.tells t (custodyReport i (t.door i) t.rel.pendingMaint ["TC"]) ∧
      ((s.door i).live.supply = true → s.tells t ⟨.test, some (i.val + 1), ["ABORTED", "-", "-", "0"]⟩)) ∧
  (∀ (p : Poll) (i : DoorIx) (e : DoorEntry) (st : Status) (s : State), s.alive = true → s.bus.poll = some p → p.discard = false →
    p.door = i → (s.door i).entry = some e → st.code < 16 → st.current < 256 → st.handle = true → (s.door i).live.handle = false →
    (s.door i).custody ≠ .isolated → (s.door i).custody ≠ .emergency →
    ∃ t, exec (.doorGoodReply (statusFrame i st)) s = .next t ∧
      s.tells t (custodyReport i (t.door i) t.rel.pendingMaint ["HANDLE"])) ∧
  (∀ (l : Link) (g : Nat) (s : State), g ≤ 15 → s.ready l .op → s.berth.state = .aligned → s.auth.hold = false →
    (s.berth.map.map MapEntry.j).Nodup →
    ∃ t, exec (.op l (g : Int)) s = .next t ∧
      ∀ i ∈ s.opDoors g, (s.door i).state ≠ (t.door i).state → s.tells t (doorReport i (t.door i))) ∧
  (∀ (l : Link) (g : Nat) (s : State), g ≤ 15 → s.ready l .cl → s.auth.hold = false →
    (∀ i ∈ s.clDoors g, (s.door i).custody = .emergency → (s.door i).rPlatform = false) →
    ∃ t, exec (.cl l (g : Int)) s = .next t ∧
      ∀ i ∈ s.clDoors g, i ∉ s.rel.pendingMaint → (s.door i).state ≠ (t.door i).state → s.tells t (doorReport i (t.door i))) ∧
  (∀ (l : Link) (i : DoorIx) (e : DoorEntry) (near far group : Option Int) (egress : Option (Kw Bool))
    (retry force blank window : Option Int) (iso : Option (Kw Bool)) (s : State),
    s.ready l .dc → s.berth.state = .empty → (s.door i).entry = none →
    dcEntry none near far group egress retry force blank window iso = some e → e.widthOk = true → s.edgesClash i e = false →
    ∃ t, exec (.dc l (ixInt i) near far group egress retry force blank window iso) s = .next t ∧
      s.tells t (doorReport i (Door.created e))) ∧
  (∀ (l : Link) (i : DoorIx) (s : State), s.ready l .dx → s.berth.state = .empty → (s.door i).configured = true →
    (s.door i).custody ≠ .emergency → (s.door i).testPhase = .none → s.zoneNames i = false →
    ∃ t, exec (.dx l (ixInt i)) s = .next t ∧ s.tells t ⟨.door, some (i.val + 1), ["REMOVED"]⟩ ∧
      ((s.door i).custodySame Door.reset = false → s.tells t (custodyReport i (t.door i) t.rel.pendingMaint []))) ∧
  (∀ (l : Link) (i : DoorIx) (s : State), s.ready l .dr → (s.door i).configured = true →
    (s.door i).custody = .maint ∨ (s.door i).custody = .isolated → (s.door i).testPhase = .none →
    ∃ t, exec (.dr l (ixInt i)) s = .next t ∧ s.tells t (doorReport i (t.door i))) ∧
  (∀ (l : Link) (i : DoorIx) (w : Option (Kw Unit)) (s : State), s.ready l .isol → (s.door i).configured = true →
    (s.door i).custody = .sequencer ∨ (s.door i).custody = .maint → (s.door i).testPhase = .none → w ≠ some .unknown →
    ((s.door i).state = .closedLocked ∨ (w.isSome = true ∧ ((s.door i).state = .fault ∨ (s.door i).state = .unknown))) →
    ∃ t, exec (.isol l (ixInt i) w) s = .next t ∧ s.tells t (custodyReport i (t.door i) t.rel.pendingMaint ["IS"])) ∧
  (∀ (l : Link) (i : DoorIx) (s : State), s.ready l .mr → (s.door i).configured = true → (s.door i).custody = .maint →
    (s.door i).testPhase = .none → (s.door i).state = .closedLocked →
    s.rel.active = false ∨ s.berth.isMapDoor i = false ∨ s.berth.state.takesRelease = false →
    ∃ t, exec (.mr l (ixInt i)) s = .next t ∧ s.tells t (custodyReport i (t.door i) t.rel.pendingMaint ["MR"])) ∧
  (∀ s : State, s.ready .panel .er → s.power.esr = false →
    ∃ t, exec (.er .panel none) s = .next t ∧
      ∀ i : DoorIx, (s.door i).rPlatform = true → i ∉ s.rel.pendingMaint →
        s.tells t (custodyReport i (t.door i) t.rel.pendingMaint ["ER"]))

/-! Events of the berth and the doors. -/

/-- R18, R19, R21, R29, R33: a sample sets its sensor and T, and one that brings the berth out of EMPTY fills its record from the
expected-arrival record (R27) or DEFPROF; the end of the silence timer makes a sensor SILENT; the end of the target-loss timer empties the
berth unless it is ALIGNED, and opens the OPENING doors that release holds where a map clears so (R139); that the two act whatever time remains is the model's choice (log 2). R192: bytes before a
start byte are discarded, and a sample may come in parts, less than 5 ms apart (log 31). -/
def Obligations.RangingTaken : Prop :=
  (∀ (x : SensorId) (s : State), s.alive = true → s.start.phase ≠ .starting →
    (∀ (part bytes : List Byte), (s.trk.sensor x).part = [] → part.head? = some 0xA5#8 → part.length < 6 →
      ∃ t, exec (.rangingSample x part) s = .next t ∧
        t.trk = s.trk.setSensor x { s.trk.sensor x with part := part, gap := 5 } ∧ s.sameBut [.trk] t ∧ s.inputsSame t ∧
        (bytes ≠ [] → t.sec = s.sec → t.ports = s.ports →
          exec (.rangingSample x bytes) t = exec (.rangingSample x (part ++ bytes)) s)) ∧
    (∀ (skipped bytes : List Byte), (s.trk.sensor x).part = [] → (s.trk.sensor x).gap = 0 → 0xA5#8 ∉ skipped →
      exec (.rangingSample x (skipped ++ bytes)) s = exec (.rangingSample x bytes) s) ∧
    ((tick s).trk.sensor x).part = if (s.trk.sensor x).gap = 0 then [] else (s.trk.sensor x).part) ∧
  (∀ (x : SensorId) (d : Nat) (s : State), s.alive = true → s.start.phase ≠ .starting → (s.trk.sensor x).part = [] → d < 16777216 →
    ∃ t, exec (.rangingSample x (okSampleBytes d)) s = .next t ∧ (t.trk.sensor x).state = .ok ∧
      (t.trk.sensor x).last = some (min d 300000) ∧ (t.trk.sensor x).silence = some 200 ∧ t.trk.prevT = t.trk.trackT ∧
      (s.berth.state = .empty ∨ s.berth.state = .aligned ∨ s.berth.state = .departing ∨ s.berth.state = .movedOpen →
        (t.trk.sensor x).window = (s.trk.sensor x).window.drop ((s.trk.sensor x).window.length - 7) ++ [min d 300000] ∧
        (t.trk.sensor x).settled = judgeSettled s.settings.band (t.trk.sensor x)) ∧
      (s.berth.state = .aligned → t.trk.loss = some 1000) ∧
      (∀ n, s.berth.state = .empty → t.trk.trackT = some n →
        (n ≤ s.settings.approach → t.berth.state ≠ .empty ∧ t.trk.expected = none ∧ t.trk.loss = some 1000 ∧
          (∀ a, s.trk.expected = some a → t.berth.profile = some a.profile ∧ t.berth.trainId = a.trainId ∧ t.berth.r = a.r ∧
            t.berth.cuts = a.cuts) ∧
          (s.trk.expected = none →
            (∀ p : ProfileIx, t.berth.profile = some p ↔ ixNat p = s.settings.defprof ∧ (s.profile p).state = .valid) ∧
            t.berth.trainId = none ∧ t.berth.r = none ∧ t.berth.cuts = [])) ∧
        (s.settings.approach < n → t.berth = s.berth ∧ t.trk.expected = s.trk.expected)) ∧
      (∀ y, y ≠ x → (t.trk.sensor y).state = (s.trk.sensor y).state ∧ (t.trk.sensor y).last = (s.trk.sensor y).last ∧
        (t.trk.sensor y).silence = (s.trk.sensor y).silence) ∧
      s.sameBut [.doors, .trk, .sense, .rel, .auth] t ∧ s.inputsSame t) ∧
  (∀ (x : SensorId) (fault : Bool) (s : State), s.alive = true → s.start.phase ≠ .starting → (s.trk.sensor x).part = [] →
    ∃ t, exec (.rangingSample x (bareSampleBytes fault)) s = .next t ∧
      (t.trk.sensor x).state = (if fault then .fault else .noTarget) ∧ (t.trk.sensor x).last = none ∧ (t.trk.sensor x).window = [] ∧
      (t.trk.sensor x).settled = false ∧ (t.trk.sensor x).silence = some 200 ∧ t.trk.prevT = t.trk.trackT ∧
      s.sameBut [.doors, .trk, .sense, .rel, .auth] t ∧ s.inputsSame t) ∧
  (∀ (x : SensorId) (s : State), s.alive = true → (s.trk.sensor x).silence.isSome = true →
    ∃ t, exec (.silenceExpiry x) s = .next t ∧ (t.trk.sensor x).state = .silent ∧ (t.trk.sensor x).last = none ∧
      (t.trk.sensor x).window = [] ∧ (t.trk.sensor x).settled = false ∧ (t.trk.sensor x).silence = none ∧
      t.trk.prevT = t.trk.trackT ∧ s.sameBut [.doors, .trk, .sense, .rel, .auth] t ∧ s.inputsSame t) ∧
  (∀ s : State, s.alive = true → s.trk.loss.isSome = true →
    (s.berth.state = .aligned → ∃ t, exec .targetLoss s = .next t ∧ t.trk = { s.trk with loss := none } ∧ s.sameBut [.trk] t ∧
      s.inputsSame t) ∧
    (s.berth.state ≠ .aligned → ∃ t, exec .targetLoss s = .next t ∧ t.berth = Berth.reset ∧ t.trk.loss = none ∧
      t.trk.sensorA = { s.trk.sensorA with ref := none } ∧ t.trk.sensorB = { s.trk.sensorB with ref := none } ∧
      t.trk.expected = s.trk.expected ∧ t.trk.prevT = s.trk.prevT ∧ (s.berth.state.holdsMap = true → s.platformOpened t) ∧
      s.sameBut [.doors, .trk, .sense, .rel, .auth] t ∧ s.inputsSame t))

/-- R68, R69, R82, R83, R88, R89, R93 to R99, R104, R132, R133, R138, R145, R146: what a good reply does at its door, by custody and
state; a door in MAINT or ISOLATED custody is not pending (R142). R61, R62, R70: the next poll of the cycle begins, which sets the
over-force run of its door to 0 where its order differs from the last; its window is the model's choice (log 32). R68, R72: every condition
that the reply makes live is latched for all three links, and no latched one is cleared. -/
def Obligations.DoorReplyTaken : Prop :=
  ∀ (p : Poll) (i : DoorIx) (e : DoorEntry) (st : Status) (s : State), s.alive = true → s.bus.poll = some p → p.discard = false →
    p.door = i → (s.door i).entry = some e → st.code < 16 → st.current < 256 →
    ∃ t, exec (.doorGoodReply (statusFrame i st)) s = .next t ∧ (t.door i).misses = 0 ∧ (t.door i).last = some st ∧
      (st.overForce = false → (t.door i).ovf = 0) ∧
      (∀ k : DoorIx, k ≠ i → t.pollFrame s k) ∧
      (t.door i).ovf = t.runAfterPoll i (s.door i) (if st.overForce then satInc 8 (s.door i).ovf else 0) ∧
      (∀ l : Link, (t.door i).latched l =
        ((s.door i).latched l).or (st.raises (if st.overForce then satInc 8 (s.door i).ovf else 0) (s.door i))) ∧
      (∀ (j : DoorIx) (rest : List DoorIx) (x : DoorEntry), s.start.phase ≠ .starting → s.bus.cycle = j :: rest →
        (s.door j).entry = some x →
        t.bus = ⟨rest, some ⟨j, orderFrame j x.force (t.orderFor j), 8 + x.window, false⟩⟩) ∧
      s.sameBut [.doors, .trk, .rel, .bus] t ∧ s.inputsSame t ∧
      (st.handle = true → (s.door i).live.handle = false → (s.door i).custody ≠ .isolated →
        t.doorIs i .released none .emergency ∧ (t.door i).rHandle = true ∧ (t.door i).stopped ∧ i ∉ t.rel.pendingMaint ∧
        ((s.door i).custody = .maint → (t.door i).retMaint = true) ∧
        ((s.door i).test.isSome = true → (t.door i).test = none ∧ (t.door i).testPhase = .none)) ∧
      (st.handle = false ∨ (s.door i).live.handle = true ∨ ((s.door i).custody = .isolated ∧ i ∉ s.rel.pendingMaint) →
        (st.code ≠ 0 → (t.door i).state = .fault ∧ (t.door i).fault = some .drive ∧
          ((s.door i).test.isSome = true → (t.door i).test = none ∧ (t.door i).testPhase = .none)) ∧
        ((s.door i).custody ≠ .emergency → st.code = 0 →
          (s.door i).misses = 3 ∨ ((s.door i).state = .fault ∧ ((s.door i).fault = some .drive ∨
            ((s.door i).fault = some .supply ∧ st.supplyLow = false))) →
          (t.door i).state = resolve st ∧ (t.door i).fault = none) ∧
        ((s.door i).misses ≠ 3 → st.code = 0 → (s.door i).state = .fault →
          (s.door i).fault ≠ some .drive → (s.door i).fault ≠ some .supply ∨ st.supplyLow = true →
          (s.door i).custody ≠ .maint ∨ (s.door i).testPhase = .none →
          (t.door i).state = .fault ∧ (t.door i).fault = (s.door i).fault) ∧
        ((s.door i).misses ≠ 3 → st.code = 0 → st.supplyLow = false → (s.door i).custody = .sequencer →
          ((s.door i).state = .unknown ∨ (s.door i).state = .closedLocked ∨ (s.door i).state = .closedUnlocked ∨
              (s.door i).state = .opened → (t.door i).state = resolve st ∧ (t.door i).fault = none) ∧
          ((s.door i).state = .warning ∨ (s.door i).state = .paused ∨ (s.door i).state = .held →
            (t.door i).state = (s.door i).state ∧ (t.door i).warn = (s.door i).warn ∧ (t.door i).maxHold = (s.door i).maxHold ∧
            (t.door i).pause = (s.door i).pause ∧ (t.door i).timeout = (s.door i).timeout) ∧
          ((s.door i).state = .opening → st.pos = .openEnd → (t.door i).state = .opened ∧ (t.door i).timeout = none) ∧
          ((s.door i).state = .reopening → st.pos = .openEnd → (t.door i).state = .paused ∧ (t.door i).pause = some s.settings.pause) ∧
          ((s.door i).state = .opening ∨ (s.door i).state = .reopening → st.pos ≠ .openEnd →
            (e.blank ≤ (if st.overForce then satInc 8 (s.door i).ovf else 0) →
              (t.door i).state = .opened ∧ (t.door i).obstacles = satInc 65535 (s.door i).obstacles) ∧
            ((if st.overForce then satInc 8 (s.door i).ovf else 0) < e.blank →
              (t.door i).state = (s.door i).state ∧ (t.door i).timeout = (s.door i).timeout)) ∧
          ((s.door i).state = .closing → st.pos = .closed → st.locked = true →
            (t.door i).retry = 0 ∧ (t.door i).obstructed = false ∧
            (s.anyZone .gap i (· == .occupied) = true → s.berth.state = .aligned → s.berth.isMapDoor i = true → e.egress = true →
              0 < s.settings.egress → s.auth.effective = .auto → s.auth.hold = false → i ∉ s.berth.egressUsed →
              (t.door i).state = .opening ∧ (t.door i).timeout = some s.settings.opento ∧
              (t.door i).opens = satInc 4294967295 (s.door i).opens ∧ i ∈ t.berth.egressUsed) ∧
            (s.anyZone .gap i (· == .occupied) = false ∨ s.berth.state ≠ .aligned ∨ s.berth.isMapDoor i = false ∨ e.egress = false ∨
                s.settings.egress = 0 ∨ s.auth.effective ≠ .auto ∨ s.auth.hold = true ∨ i ∈ s.berth.egressUsed →
              (t.door i).state = .closedLocked ∧ (t.door i).lockedSince = some 0)) ∧
          ((s.door i).state = .closing → st.pos ≠ .closed ∨ st.locked = false →
            e.blank ≤ (if st.overForce then satInc 8 (s.door i).ovf else 0) →
            (t.door i).obstacles = satInc 65535 (s.door i).obstacles ∧
            ((s.door i).retry < e.retry → (t.door i).state = .reopening ∧ (t.door i).timeout = some s.settings.opento ∧
              (t.door i).retry = (s.door i).retry + 1) ∧
            (e.retry ≤ (s.door i).retry → (t.door i).state = .opened ∧ (t.door i).obstructed = true ∧
              (t.door i).retry = e.retry + 1)) ∧
          ((s.door i).state = .closing → st.pos ≠ .closed ∨ st.locked = false →
            (if st.overForce then satInc 8 (s.door i).ovf else 0) < e.blank →
            (t.door i).state = .closing ∧ (t.door i).timeout = (s.door i).timeout ∧
            (t.door i).lock = (if st.pos = .closed ∧ (s.door i).lock = none then some s.settings.lockto else (s.door i).lock))) ∧
        ((s.door i).misses ≠ 3 → st.code = 0 → st.supplyLow = true → (s.door i).custody = .sequencer →
          (s.door i).state = .opening ∨ (s.door i).state = .reopening ∨ (s.door i).state = .closing →
          st.pos = .intermediate → (if st.overForce then satInc 8 (s.door i).ovf else 0) < e.blank →
          (t.door i).state = .fault ∧ (t.door i).fault = some .supply) ∧
        ((s.door i).misses ≠ 3 → st.code = 0 →
          (s.door i).custody = .isolated ∨ ((s.door i).custody = .maint ∧ (s.door i).testPhase = .none) → (s.door i).state ≠ .fault →
          (t.door i).state = resolve st ∧ (t.door i).fault = none) ∧
        (∀ c : TestCtx, (s.door i).test = some c → (s.door i).custody = .maint → i ∉ s.rel.pendingMaint →
          (s.door i).misses ≠ 3 → st.code = 0 → (s.door i).state ≠ .fault → st.supplyLow = false →
          ((s.door i).testPhase = .dwell → (t.door i).state = (s.door i).state ∧ (t.door i).testPhase = .dwell ∧
            (t.door i).test = some { c with peak := max c.peak st.current }) ∧
          ((s.door i).testPhase = .opening →
            (st.pos = .openEnd → t.doorIs i .opened none .maint ∧ (t.door i).testPhase = .dwell ∧ (t.door i).mOrder = .hold ∧
              (t.door i).test = some { c with peak := max c.peak st.current, timer := 2000, openTime := some c.elapsed, elapsed := 0 }) ∧
            (st.pos ≠ .openEnd → (if st.overForce then satInc 8 (s.door i).ovf else 0) < e.blank →
              (t.door i).state = (s.door i).state ∧ (t.door i).testPhase = .opening ∧
              (t.door i).test = some { c with peak := max c.peak st.current })) ∧
          ((s.door i).testPhase = .closing →
            (st.pos = .closed → st.locked = true → t.doorIs i .closedLocked none .maint ∧ (t.door i).testPhase = .none ∧
              (t.door i).test = none ∧ (t.door i).mOrder = .hold ∧ (t.door i).lastTest =
                some { result := .pass, openTime := c.openTime, closeTime := some c.elapsed, peak := max c.peak st.current }) ∧
            (st.pos ≠ .closed ∨ st.locked = false → (if st.overForce then satInc 8 (s.door i).ovf else 0) < e.blank →
              (t.door i).state = (s.door i).state ∧ (t.door i).testPhase = .closing ∧
              (t.door i).test = some { c with
                peak := max c.peak st.current,
                lock := if st.pos = .closed ∧ c.lock = none then some s.settings.lockto else c.lock })) ∧
          (((s.door i).testPhase = .opening ∧ st.pos ≠ .openEnd) ∨
              ((s.door i).testPhase = .closing ∧ (st.pos ≠ .closed ∨ st.locked = false)) →
            e.blank ≤ (if st.overForce then satInc 8 (s.door i).ovf else 0) →
            t.doorIs i .opened none .maint ∧ (t.door i).testPhase = .none ∧ (t.door i).test = none ∧ (t.door i).mOrder = .hold ∧
            (t.door i).lastTest =
              some { result := .obstacle, openTime := c.openTime, closeTime := c.closeTime, peak := max c.peak st.current })) ∧
        ((s.door i).custody = .emergency → (s.door i).rHandle = true → st.code = 0 →
          (s.door i).misses = 3 ∨ ((s.door i).state = .fault ∧ ((s.door i).fault = some .drive ∨
            ((s.door i).fault = some .supply ∧ st.supplyLow = false))) ∨ (s.door i).state = .released →
          (t.door i).state = .released ∧ (t.door i).custody = .emergency) ∧
        ((s.door i).custody = .emergency → (s.door i).rHandle = false → (s.door i).rPlatform = true → st.code = 0 →
          ((s.door i).misses ≠ 3 → (s.door i).state = .opening → s.berth.isMapDoor i = true → st.supplyLow = false →
            (st.pos = .openEnd → (t.door i).state = .opened ∧ (t.door i).timeout = none) ∧
            (st.pos ≠ .openEnd → e.blank ≤ (if st.overForce then satInc 8 (s.door i).ovf else 0) →
              (t.door i).state = .opened ∧ (t.door i).obstacles = satInc 65535 (s.door i).obstacles) ∧
            (st.pos ≠ .openEnd → (if st.overForce then satInc 8 (s.door i).ovf else 0) < e.blank →
              (t.door i).state = .opening ∧ (t.door i).timeout = (s.door i).timeout)) ∧
          ((s.door i).misses = 3 ∨ ((s.door i).state = .fault ∧ ((s.door i).fault = some .drive ∨
              ((s.door i).fault = some .supply ∧ st.supplyLow = false))) ∨
              ((s.door i).state ≠ .fault ∧ ((s.door i).state ≠ .opening ∨ s.berth.isMapDoor i = false)) →
            (s.berth.isMapDoor i = false ∨ st.pos ≠ .closed → (t.door i).state = resolve st ∧ (t.door i).fault = none) ∧
            (s.berth.isMapDoor i = true → st.pos = .closed → (s.door i).state ≠ .closedLocked → (s.door i).state ≠ .closedUnlocked →
              st.supplyLow = false →
              (t.door i).state = .opening ∧ (t.door i).timeout = some s.settings.opento ∧
              (t.door i).opens = satInc 4294967295 (s.door i).opens) ∧
            (s.berth.isMapDoor i = true → st.pos = .closed → (s.door i).state ≠ .closedLocked → (s.door i).state ≠ .closedUnlocked →
              st.supplyLow = true → (t.door i).state = .fault ∧ (t.door i).fault = some .supply))))

/-- R66, R67: a miss adds to the door's counter; the third takes the door to FAULT, COMMS, with the over-force run at 0 and COMMS latched
for all three links (R72), and a counter at 3 stands. R79: a poll whose door was removed takes no frame, and the end of its window begins the next poll, whose window is the model's
choice (log 32). -/
def Obligations.DoorMissTaken : Prop :=
  (∀ (p : Poll) (s : State), s.alive = true → s.bus.poll = some p → p.discard = true →
    (∀ bytes : List Byte, (∃ t, exec (.doorGoodReply bytes) s = .next t ∧ s.sameBut [] t ∧ s.inputsSame t) ∧
      (∃ t, exec (.doorMiss (.frame bytes)) s = .next t ∧ s.sameBut [] t ∧ s.inputsSame t)) ∧
    (∀ how : PollEnd, how = .missing ∨ how = .late → ∃ t, exec (.doorMiss how) s = .next t ∧
      (∀ m : DoorIx, t.pollFrame s m) ∧
      (∀ (j : DoorIx) (rest : List DoorIx) (x : DoorEntry), s.start.phase ≠ .starting → s.bus.cycle = j :: rest →
        (s.door j).entry = some x →
        t.bus = ⟨rest, some ⟨j, orderFrame j x.force (t.orderFor j), 8 + x.window, false⟩⟩) ∧
      (s.start.phase ≠ .starting → s.bus.cycle = [] → s.configuredDoors = [] → t.bus = ⟨[], none⟩) ∧
      s.sameBut [.doors, .bus] t ∧ s.inputsSame t)) ∧
  (∀ (p : Poll) (how : PollEnd) (k : MissKind) (i : DoorIx) (s : State), s.alive = true → s.bus.poll = some p → p.discard = false →
    p.door = i → judgePoll i how = .miss k →
    ∃ t, exec (.doorMiss how) s = .next t ∧ (t.door i).misses = satInc 3 (s.door i).misses ∧ (t.door i).last = (s.door i).last ∧
      (∀ m : DoorIx, m ≠ i → t.pollFrame s m) ∧
      ((s.door i).misses ≠ 2 → (t.door i).ovf = t.runAfterPoll i (s.door i) (s.door i).ovf ∧
        ∃ o v, t.door i = { s.door i with misses := satInc 3 (s.door i).misses, lastOrder := o, ovf := v }) ∧
      ((s.door i).misses = 2 → (t.door i).state = .fault ∧ (t.door i).fault = some .comms ∧ (t.door i).stopped ∧
        (t.door i).ovf = 0 ∧ ((s.door i).test.isSome = true → (t.door i).test = none ∧ (t.door i).testPhase = .none) ∧
        (i ∉ s.rel.pendingMaint → (t.door i).custody = (s.door i).custody) ∧
        (t.door i).rHandle = (s.door i).rHandle ∧ (t.door i).rPlatform = (s.door i).rPlatform ∧
        (∀ l : Link, (t.door i).latched l = { (s.door i).latched l with comms := true })) ∧
      s.sameBut [.doors, .trk, .rel, .bus] t ∧ s.inputsSame t)

/-- R84, R88, R92, R93, R95, R98: what the end of each sequencer timer does at its door; a door that would enter CLOSING on a low supply
goes to FAULT, SUPPLY. That each command acts whatever time remains is the model's choice (log 2). -/
def Obligations.DoorTimersExpire : Prop :=
  (∀ (i : DoorIx) (s : State), s.alive = true → (s.door i).state = .warning → (s.door i).live.supply = false →
    ((s.door i).warn.isSome = true → (s.door i).warnHeld = false →
      ∃ t, exec (.warningExpiry (ixNat i)) s = .next t ∧ t.doorIs i .closing none (s.door i).custody ∧
        (t.door i).timeout = some s.settings.closeto ∧ (t.door i).warn = none ∧ (t.door i).maxHold = none ∧ (t.door i).lock = none ∧
        (t.door i).retry = (s.door i).retry ∧ s.otherDoors [i] t ∧ s.sameBut [.doors, .trk] t ∧ s.inputsSame t) ∧
    ((s.door i).maxHold.isSome = true →
      ∃ t, exec (.maxHoldExpiry (ixNat i)) s = .next t ∧ t.doorIs i .closing none (s.door i).custody ∧
        (t.door i).timeout = some s.settings.closeto ∧ (t.door i).warn = none ∧ (t.door i).maxHold = none ∧ (t.door i).lock = none ∧
        (t.door i).retry = (s.door i).retry ∧ s.otherDoors [i] t ∧ s.sameBut [.doors, .trk] t ∧ s.inputsSame t)) ∧
  (∀ (i : DoorIx) (c : Instr) (s : State), s.alive = true → (s.door i).state = .warning → (s.door i).live.supply = true →
    (c = .warningExpiry (ixNat i) ∧ (s.door i).warn.isSome = true ∧ (s.door i).warnHeld = false) ∨
      (c = .maxHoldExpiry (ixNat i) ∧ (s.door i).maxHold.isSome = true) →
    ∃ t, exec c s = .next t ∧ (t.door i).state = .fault ∧ (t.door i).fault = some .supply ∧ (t.door i).stopped ∧
      (t.door i).retry = (s.door i).retry ∧ (i ∉ s.rel.pendingMaint → (t.door i).custody = (s.door i).custody) ∧ s.otherDoors [i] t ∧
      s.sameBut [.doors, .trk, .rel] t ∧ s.inputsSame t) ∧
  (∀ (i : DoorIx) (s : State), s.alive = true → (s.door i).state = .paused → (s.door i).pause.isSome = true →
    ∃ t, exec (.pauseExpiry (ixNat i)) s = .next t ∧ t.doorIs i .warning none (s.door i).custody ∧
      (t.door i).warn = some s.settings.warn ∧ (t.door i).maxHold = some s.settings.maxhold ∧ (t.door i).pause = none ∧
      (t.door i).warnHeld = s.warningHeld i ∧ (t.door i).retry = (s.door i).retry ∧ s.otherDoors [i] t ∧
      s.sameBut [.doors, .trk] t ∧ s.inputsSame t) ∧
  (∀ (i : DoorIx) (s : State), s.alive = true → (s.door i).state = .opening ∨ (s.door i).state = .reopening →
    (s.door i).timeout.isSome = true →
    ∃ t, exec (.openingTimeout (ixNat i)) s = .next t ∧ (t.door i).state = .fault ∧ (t.door i).fault = some .openTimeout ∧
      (t.door i).stopped ∧ (i ∉ s.rel.pendingMaint → (t.door i).custody = (s.door i).custody) ∧ s.otherDoors [i] t ∧
      s.sameBut [.doors, .trk, .rel] t ∧ s.inputsSame t) ∧
  (∀ (i : DoorIx) (s : State), s.alive = true → (s.door i).state = .closing →
    ((s.door i).timeout.isSome = true →
      ∃ t, exec (.closingTimeout (ixNat i)) s = .next t ∧ (t.door i).state = .fault ∧ (t.door i).fault = some .closeTimeout ∧
        (t.door i).stopped ∧ (i ∉ s.rel.pendingMaint → (t.door i).custody = (s.door i).custody) ∧ s.otherDoors [i] t ∧
        s.sameBut [.doors, .trk, .rel] t ∧ s.inputsSame t) ∧
    ((s.door i).lock.isSome = true →
      ∃ t, exec (.lockTimerExpiry (ixNat i)) s = .next t ∧ (t.door i).state = .fault ∧ (t.door i).fault = some .lockFail ∧
        (t.door i).stopped ∧ (i ∉ s.rel.pendingMaint → (t.door i).custody = (s.door i).custody) ∧ s.otherDoors [i] t ∧
        s.sameBut [.doors, .trk, .rel] t ∧ s.inputsSame t))

/-- R145, R146: the end of a test's phase or lock timer ends the test in FAULT with its result on record; the end of the dwell begins
the closing, or on a low supply ends the test ABORTED in FAULT, SUPPLY (R98). That each command acts whatever time remains is the model's
choice (log 2). -/
def Obligations.TestTimersExpire : Prop :=
  ∀ (i : DoorIx) (c : TestCtx) (s : State), s.alive = true → (s.door i).test = some c → (s.door i).custody = .maint →
    ((s.door i).testPhase = .opening →
      ∃ t, exec (.testOpenTimeout (ixNat i)) s = .next t ∧ t.doorIs i .fault (some .openTimeout) .maint ∧
        (t.door i).testPhase = .none ∧ (t.door i).test = none ∧ (t.door i).mOrder = .hold ∧
        (t.door i).lastTest = some { result := .openTimeout, openTime := c.openTime, closeTime := c.closeTime, peak := c.peak } ∧
        s.otherDoors [i] t ∧ s.sameBut [.doors, .trk, .rel] t ∧ s.inputsSame t) ∧
    ((s.door i).testPhase = .dwell → (s.door i).live.supply = false →
      ∃ t, exec (.dwellExpiry (ixNat i)) s = .next t ∧ t.doorIs i .closing none .maint ∧ (t.door i).testPhase = .closing ∧
        (t.door i).mOrder = .close ∧ (t.door i).test = some { c with timer := s.settings.closeto, elapsed := 0, lock := none } ∧
        s.otherDoors [i] t ∧ s.sameBut [.doors, .trk] t ∧ s.inputsSame t) ∧
    ((s.door i).testPhase = .dwell → (s.door i).live.supply = true →
      ∃ t, exec (.dwellExpiry (ixNat i)) s = .next t ∧ t.doorIs i .fault (some .supply) .maint ∧ (t.door i).testPhase = .none ∧
        (t.door i).test = none ∧ (t.door i).mOrder = .hold ∧
        (t.door i).lastTest = some { result := .aborted, openTime := c.openTime, closeTime := c.closeTime, peak := c.peak } ∧
        s.otherDoors [i] t ∧ s.sameBut [.doors, .trk, .rel] t ∧ s.inputsSame t) ∧
    ((s.door i).testPhase = .closing →
      (∃ t, exec (.testCloseTimeout (ixNat i)) s = .next t ∧ t.doorIs i .fault (some .closeTimeout) .maint ∧
        (t.door i).testPhase = .none ∧ (t.door i).test = none ∧ (t.door i).mOrder = .hold ∧
        (t.door i).lastTest = some { result := .closeTimeout, openTime := c.openTime, closeTime := c.closeTime, peak := c.peak } ∧
        s.otherDoors [i] t ∧ s.sameBut [.doors, .trk, .rel] t ∧ s.inputsSame t) ∧
      (c.lock.isSome = true →
        ∃ t, exec (.testLockExpiry (ixNat i)) s = .next t ∧ t.doorIs i .fault (some .lockFail) .maint ∧
          (t.door i).testPhase = .none ∧ (t.door i).test = none ∧ (t.door i).mOrder = .hold ∧
          (t.door i).lastTest = some { result := .lockFail, openTime := c.openTime, closeTime := c.closeTime, peak := c.peak } ∧
          s.otherDoors [i] t ∧ s.sameBut [.doors, .trk, .rel] t ∧ s.inputsSame t))

/-- R103: when a door is ready for egress reopen. R104: a GAP zone of the door that becomes OCCUPIED on a frame opens the door where it is
ready, which then is of the egress-used set, and leaves it as it is where not. -/
def Obligations.EgressReadiness : Prop :=
  (∀ (sl : Slot) (st : HeadStatus) (c : BitVec 64) (z : ZoneIx) (x : Zone) (i : DoorIx) (s : State), s.alive = true →
    s.sense.scan.slot = some sl → sl.reply = .outstanding → sl.live = true → (s.head sl.head).visited = true →
    s.zone z = some x → x.cfg.head = sl.head → x.cfg.kind = .gap → x.cfg.names i = true → x.state ≠ .occupied → st ≠ .fault →
    ((x.derive ((s.head sl.head).replied st c)).evaluate c s.gapDepth).state = .occupied →
    ∃ t, exec (.headGoodReply (frameReply sl.head st c)) s = .next t ∧
      (s.egressReady i = true → (t.door i).state = .opening ∧ (t.door i).timeout = some s.settings.opento ∧
        (t.door i).opens = satInc 4294967295 (s.door i).opens ∧ i ∈ t.berth.egressUsed) ∧
      (s.egressReady i = false → (t.door i).state = (s.door i).state ∧ (t.door i).opens = (s.door i).opens) ∧
      s.sameBut [.sense, .doors, .trk] t ∧ s.inputsSame t) ∧
  (∀ (s : State) (i : DoorIx), s.egressReady i = true ↔
    (s.door i).custody = .sequencer ∧ (s.door i).state = .closedLocked ∧
    (∃ n, (s.door i).lockedSince = some n ∧ n < s.settings.egress) ∧ 0 < s.settings.egress ∧
    (∃ e, (s.door i).entry = some e ∧ e.egress = true) ∧ s.berth.state = .aligned ∧ s.berth.isMapDoor i = true ∧
    s.auth.effective = .auto ∧ s.auth.hold = false ∧ i ∉ s.berth.egressUsed ∧ (s.door i).live.supply = false)

/-! Events of the sensor bus. -/

/-- R108, R111, R112, R113, R114, R120, R122, R126: a slot goes to the head whose turn it is, or to a waiting pass-through; a good reply
renews its head and has the head's zones evaluated; a miss and an old frame leave the zones of the head as R120 gives them. R92: with
each of the three, the warning timers follow the zones that hold them. That
FRAME_SLOT and FRAME_AGE_EXPIRY act at any time or age (log 2), and that HEAD_MISS takes a spoiled slot (log 8), is the model's choice. -/
def Obligations.SensorBusWorked : Prop :=
  (∀ (h : HeadIx) (n : Nat) (s : State), s.alive = true → s.start.phase ≠ .starting → s.sense.scan.pt = none →
    (∀ sl, s.sense.scan.slot = some sl → sl.reply = .done) → s.nextSlot = some (h, n) →
    ∃ t, exec .frameSlot s = .next t ∧ s.sameBut [.sense] t ∧ s.inputsSame t ∧
      t.sense.heads = s.sense.heads ∧ t.sense.zones = s.sense.zones ∧
      t.sense.scan = ⟨h, n, false, some ⟨h, frameRequest h, 10, .outstanding, true⟩, none⟩) ∧
  (∀ (pt : PassThrough) (s : State), s.alive = true → s.start.phase ≠ .starting → s.sense.scan.pt = some pt → pt.wait = none →
    (∀ sl, s.sense.scan.slot = some sl → sl.reply = .done) →
    ∃ t, exec .frameSlot s = .next t ∧ s.sameBut [.sense] t ∧ s.inputsSame t ∧
      t.sense = { s.sense with scan := { s.sense.scan with slot := none, pt := some { pt with wait := some 50 } } }) ∧
  (∀ (sl : Slot) (st : HeadStatus) (c : BitVec 64) (s : State), s.alive = true → s.sense.scan.slot = some sl →
    sl.reply = .outstanding → sl.live = true → (s.head sl.head).visited = true →
    ∃ t, exec (.headGoodReply (frameReply sl.head st c)) s = .next t ∧ t.head sl.head = (s.head sl.head).replied st c ∧
      (t.head sl.head).misses = 0 ∧ (t.head sl.head).status = some st ∧
      (st ≠ .fault → (t.head sl.head).cells = some c ∧ (t.head sl.head).age = some 0 ∧ (t.head sl.head).stale = false) ∧
      t.sense.scan = { s.sense.scan with slot := some { sl with reply := .done } } ∧ s.otherHeads sl.head t ∧
      (∀ (z : ZoneIx) (x : Zone), s.zone z = some x → x.cfg.head = sl.head →
        (st ≠ .fault → t.zone z = some ((x.derive (t.head sl.head)).evaluate c s.gapDepth)) ∧
        (st = .fault → t.zone z = some (x.derive (t.head sl.head)))) ∧
      s.warningsFollow t ∧ s.sameBut [.sense, .doors, .trk] t ∧ s.inputsSame t) ∧
  (∀ (sl : Slot) (s : State), s.alive = true → s.sense.scan.slot = some sl → sl.reply ≠ .done → sl.live = true →
    (s.head sl.head).visited = true →
    ∃ t, exec .headMiss s = .next t ∧
      t.head sl.head = { s.head sl.head with misses := satInc 3 (s.head sl.head).misses } ∧
      t.sense.scan = { s.sense.scan with slot := some { sl with reply := .done } } ∧ s.otherHeads sl.head t ∧
      (∀ (z : ZoneIx) (x : Zone), s.zone z = some x → x.cfg.head = sl.head → t.zone z = some (x.derive (t.head sl.head))) ∧
      s.warningsFollow t ∧ s.sameBut [.sense, .doors, .trk] t ∧ s.inputsSame t) ∧
  (∀ (h : HeadIx) (s : State), s.alive = true → (s.head h).visited = true → (s.head h).age.isSome = true →
    (s.head h).stale = false →
    ∃ t, exec (.frameAgeExpiry (ixNat h)) s = .next t ∧ t.head h = { s.head h with stale := true } ∧ s.otherHeads h t ∧
      t.sense.scan = s.sense.scan ∧
      (∀ (z : ZoneIx) (x : Zone), s.zone z = some x → x.cfg.head = h → x.cfg.en = true →
        t.zone z = some { x with state := .unknown, hits := 0, clears := 0, lastCount := none }) ∧
      s.warningsFollow t ∧ s.sameBut [.sense, .doors, .trk] t ∧ s.inputsSame t)

/-! Inputs, supervision and links. -/

/-- R160, R161, R162, R163, R143: the key is read from its three inputs; the latch stands only with the key at AUTO; authority that
becomes AUTO cancels the pending maintenance requests. R135, R136, R137: an ESR level is followed at once, and qualifies at the end of
its timer; the reset-permit level that comes with it is held, and its change is no event (log 40). R165: the end of the supervision timer.
That the two commands act whatever time remains is the model's choice (log 2). -/
def Obligations.InputsFollowed : Prop :=
  (∀ (auto loc maint : Bool) (s : State), s.alive = true →
    (s.power.auto ≠ auto ∨ s.power.loc ≠ loc ∨ s.power.maint ≠ maint) →
    ∃ t, exec (.keyInputChange auto loc maint) s = .next t ∧
      t.power = { s.power with auto := auto, loc := loc, maint := maint } ∧
      (auto = true → loc = false → maint = false → t.auth.key = .auto ∧ t.auth.keyFault = false ∧ t.auth.fallback = s.auth.fallback) ∧
      (auto = false → loc = true → maint = false → t.auth.key = .loc ∧ t.auth.keyFault = false ∧ t.auth.fallback = false) ∧
      (auto = false → loc = false → maint = true → t.auth.key = .maint ∧ t.auth.keyFault = false ∧ t.auth.fallback = false) ∧
      (auto = loc ∧ (auto = false → maint = false) ∨ (auto = true ∧ maint = true) ∨ (loc = true ∧ maint = true) →
        t.auth.key = .loc ∧ t.auth.keyFault = true ∧ t.auth.fallback = false) ∧
      t.auth.hold = s.auth.hold ∧ t.auth.supv.isSome = t.supvArmed ∧
      (s.auth.effective ≠ .auto → t.auth.effective = .auto → t.rel.pendingMaint = []) ∧
      (s.auth.effective = .auto ∨ t.auth.effective ≠ .auto → t.rel = s.rel) ∧
      t.rel.esrLatch = s.rel.esrLatch ∧ t.rel.trainLatch = s.rel.trainLatch ∧ t.rel.esrTimer = s.rel.esrTimer ∧
      s.sameBut [.power, .auth, .rel] t ∧ s.inputsSame t) ∧
  (∀ (v : ReleaseInputs) (s : State), s.alive = true →
    ∃ t, exec (.esrInputChange v) s = .next t ∧ t.power = { s.power with esr := v.esr, permit := v.permit } ∧
      (s.power.esr ≠ v.esr → t.rel = { s.rel with esrTimer := if v.esr then some 200 else none }) ∧
      (s.power.esr = v.esr → t.rel = s.rel) ∧ s.sameBut [.power, .rel] t ∧ s.inputsSame t) ∧
  (∀ s : State, s.alive = true → s.rel.esrTimer.isSome = true →
    ∃ t, exec .esrQualificationExpiry s = .next t ∧ t.rel.esrLatch = true ∧ t.rel.esrTimer = none ∧
      t.rel.trainLatch = s.rel.trainLatch ∧ t.berth.map = s.berth.map ∧
      (s.rel.esrLatch = true ∨ s.berth.state.takesRelease = false → t.doors = s.doors ∧
        t.rel.pendingMaint = s.rel.pendingMaint) ∧
      (s.rel.esrLatch = false → s.berth.state.takesRelease = true →
        (∀ k : DoorIx, s.berth.isMapDoor k = false ∨ (s.door k).custody ≠ .sequencer → t.door k = s.door k) ∧
        (∀ i : DoorIx, s.berth.isMapDoor i = true → (s.door i).custody = .sequencer →
          (t.door i).custody = .emergency ∧ (t.door i).rPlatform = true ∧ (t.door i).rHandle = false ∧
          (t.door i).retMaint = false ∧ i ∉ t.rel.pendingMaint)) ∧
      s.sameBut [.doors, .trk, .rel] t ∧ s.inputsSame t) ∧
  (∀ s : State, s.alive = true → s.auth.supv.isSome = true →
    (s.auth.stage = .normal → ∃ t, exec .supervisionExpiry s = .next t ∧
      t.auth = { s.auth with stage := .late, supv := some s.settings.supv } ∧ s.sameBut [.auth] t ∧ s.inputsSame t) ∧
    (s.auth.stage = .late → ∃ t, exec .supervisionExpiry s = .next t ∧
      t.auth = { s.auth with stage := .lost, fallback := true, supv := none } ∧ s.sameBut [.auth] t ∧ s.inputsSame t))

/-- R171, R172: how the characters of a line are taken: an ordinary one joins the line, the 121st drops it, LF and an empty CR do nothing,
the CR of a dropped line is answered LONG, and a line that stays unfinished TIMEOUT; that the last acts whatever time remains is the
model's choice (log 2). R173: the CR of a line that is no record is answered with what refuses it. That a character with a framing error
joins the line as one outside the printable set, whichever it is, so that the line is refused, is in part the model's choice (log 16). -/
def Obligations.CharactersTaken : Prop :=
  (∀ (l : Link) (c : Byte) (framing : Bool) (s : State), s.alive = true → framing = true ∨ (c ≠ 0x0A#8 ∧ c ≠ 0x0D#8) →
    (s.port l).discarding = false →
    ∃ t, exec (.characterReceived l c framing) s = .next t ∧ s.sameBut [] t ∧ (∀ k, k ≠ l → (s.port k).inputSame (t.port k)) ∧
      (t.port l).inHand = (s.port l).inHand ∧ (t.port l).held = (s.port l).held ∧ (t.port l).mask = (s.port l).mask ∧
      (t.port l).watch = (s.port l).watch ∧
      ((s.port l).buf.length < 120 →
        (t.port l).buf = (s.port l).buf ++ [Char.ofNat (if framing then 0 else c.toNat)] ∧ (t.port l).discarding = false ∧
        (t.port l).lineTimer = if (s.port l).buf = [] then some 500 else (s.port l).lineTimer) ∧
      ((s.port l).buf.length = 120 → (t.port l).buf = [] ∧ (t.port l).discarding = true ∧ (t.port l).lineTimer = none)) ∧
  (∀ (l : Link) (c : Byte) (s : State), s.alive = true → c = 0x0A#8 ∨ (c = 0x0D#8 ∧ (s.port l).buf = [] ∧ (s.port l).discarding = false) ∨
      (c ≠ 0x0D#8 ∧ (s.port l).discarding = true) →
    ∃ t, exec (.characterReceived l c false) s = .next t ∧ s.sameBut [] t ∧ s.inputsSame t) ∧
  (∀ (l : Link) (c : Byte) (s : State), s.alive = true → (s.port l).discarding = true →
    ∃ t, exec (.characterReceived l c true) s = .next t ∧ s.sameBut [] t ∧ s.inputsSame t) ∧
  (∀ (l : Link) (cs : List Char), Char.ofNat 0 ∈ cs →
    ∃ verb why, parseLine l cs = .bad verb why ∧ (why = .badForm ∨ why = .unknown)) ∧
  (∀ (l : Link) (verb : String) (why : Reason) (s : State), s.alive = true → (s.port l).discarding = false → (s.port l).buf ≠ [] →
    (s.port l).idle → parseLine l (s.port l).buf = .bad verb why →
    ∃ t, exec (.characterReceived l 0x0D#8 false) s = .next t ∧ t.replies l (.no verb why) ∧ (t.port l).buf = [] ∧
      (t.port l).lineTimer = none ∧ (t.port l).discarding = false ∧ (t.port l).inHand = false ∧ (t.port l).held = none ∧
      s.sameBut [] t ∧ (∀ k, k ≠ l → (s.port k).inputSame (t.port k))) ∧
  (∀ (l : Link) (s : State), s.alive = true → (s.port l).discarding = true → (s.port l).sending = none → (s.port l).replies = [] →
    ∃ t, exec (.characterReceived l 0x0D#8 false) s = .next t ∧ t.replies l (.no "--" .long) ∧ (t.port l).discarding = false ∧
      s.sameBut [] t ∧ (∀ k, k ≠ l → (s.port k).inputSame (t.port k))) ∧
  (∀ (l : Link) (s : State), s.alive = true → (s.port l).lineTimer.isSome = true → (s.port l).sending = none →
    (s.port l).replies = [] →
    ∃ t, exec (.partialLineTimeout l) s = .next t ∧ t.replies l (.no "--" .timeout) ∧ (t.port l).buf = [] ∧
      (t.port l).lineTimer = none ∧ (t.port l).discarding = (s.port l).discarding ∧ s.sameBut [] t ∧
      (∀ k, k ≠ l → (s.port k).inputSame (t.port k)))

/-- R179: a line that is sent ends with CR and LF; when it ends, the next is the earliest reply, then the LOSS line, then the oldest report
of the highest class. That the latter two go out while the earliest reply due is not yet formed is the model's choice (log 48). -/
def Obligations.LineEnds : Prop :=
  (∀ x : OutLine, x.sent = x.text.toList ++ ['\r', '\n']) ∧
  (∀ (l : Link) (x : OutLine) (s : State), s.alive = true → s.secureCurrent → (s.port l).sending = some x →
    (∀ fs, x ≠ .reply (.ok .rs fs)) →
    ∃ t, exec (.lineSent l) s = .next t ∧ s.sameBut [] t ∧ s.inputsSame t ∧
      (∀ r rest, (s.port l).replies = some r :: rest → (t.port l).sending = some (.reply r) ∧ (t.port l).replies = rest ∧
        (t.port l).queue = (s.port l).queue ∧ (t.port l).loss = (s.port l).loss) ∧
      ((s.port l).replies = [] ∨ (∃ rest, (s.port l).replies = none :: rest) → (t.port l).replies = (s.port l).replies ∧
        ((s.port l).loss = true → (t.port l).sending = some .loss ∧ (t.port l).loss = false ∧
          (t.port l).queue = (s.port l).queue) ∧
        ((s.port l).loss = false → (t.port l).loss = false ∧
          ((s.port l).queue = [] → (t.port l).sending = none ∧ (t.port l).queue = []) ∧
          ((s.port l).queue ≠ [] → ∃ a r b, (s.port l).queue = a ++ r :: b ∧ (t.port l).sending = some (.report r) ∧
            (t.port l).queue = a ++ b ∧ (∀ q ∈ a, q.kind.cls.rank < r.kind.cls.rank) ∧
            (∀ q ∈ b, q.kind.cls.rank ≤ r.kind.cls.rank)))))

/-! Supply, reset and script. -/

/-- R151, R156, R160, R184, R185, R187: power-on, the RESET pin and the end of the reply to RS each begin a device reset, and so, by the
model's choice (log 44), does a loss of supply; where nothing holds it, it ends at once with the key read, ESR timed and, with no script
fitted, in CONFIG_FAULT. That POWER_ON carries the straps and resets a powered part (log 27), and that the queue, the counter and the
serial memory stand (log 28), is the model's choice. -/
def Obligations.DeviceReset : Prop :=
  (∀ (a b c : Bool) (s : State), ∃ t, exec (.powerOn a b c) s = .next t ∧
    t.power = { s.power with on := true, rateStrap1 := a, rateStrap0 := b, scriptStrap := c, rate := rateOf a b, scriptPresent := c } ∧
    t.cleared ∧ (∀ l : Link, (t.port l).fresh) ∧ t.pending = s.pending ∧ t.free = s.free ∧ t.start.mem = s.start.mem ∧
    (s.power.resetPin = false ∧ c = false → t.start.phase = .configFault ∧ t.start.stopped = true) ∧
    (s.power.resetPin = true ∨ c = true → t.start = { StartUp.reset with mem := s.start.mem }) ∧
    (s.power.resetPin = false →
      t.auth.key = (readKey s.power.auto s.power.loc s.power.maint).1 ∧
      t.auth.keyFault = (readKey s.power.auto s.power.loc s.power.maint).2 ∧
      t.rel.esrTimer = if s.power.esr then some 200 else none)) ∧
  (∀ s : State, ∃ t, exec .resetPinAssert s = .next t ∧ t.alive = false ∧ t.power = Power.sampled { s.power with resetPin := true } ∧
    t.cleared ∧ (∀ l : Link, (t.port l).fresh ∧ (t.port l).sending = none ∧ (t.port l).queue = []) ∧
    t.start = { StartUp.reset with mem := s.start.mem } ∧ t.pending = s.pending ∧ t.free = s.free) ∧
  (∀ s : State, s.power.resetPin = true → s.power.on = true → s.secureCurrent →
    ∃ t, exec .resetPinRelease s = .next t ∧ t.alive = true ∧ t.power = { s.power with resetPin := false } ∧
      t.auth.key = (readKey s.power.auto s.power.loc s.power.maint).1 ∧
      t.auth.keyFault = (readKey s.power.auto s.power.loc s.power.maint).2 ∧
      t.rel = { s.rel with esrTimer := if s.power.esr then some 200 else none } ∧ s.inputsSame t ∧
      (s.power.scriptPresent = true → s.sameBut [.power, .auth, .rel] t) ∧
      (s.power.scriptPresent = false → t.start = { s.start with phase := .configFault, stopped := true } ∧
        t.trk.sensorA.silence = some 200 ∧ t.trk.sensorB.silence = some 200 ∧
        s.sameBut [.power, .start, .auth, .rel, .trk, .sense, .bus, .doors] t)) ∧
  (∀ s : State, ∃ t, exec .powerLoss s = .next t ∧ t.alive = false ∧ t.power = Power.sampled { s.power with on := false } ∧
    t.cleared ∧ (∀ l : Link, (t.port l).fresh ∧ (t.port l).sending = none ∧ (t.port l).queue = []) ∧
    t.start = { StartUp.reset with mem := s.start.mem } ∧ t.pending = s.pending ∧ t.free = s.free) ∧
  (∀ (l : Link) (fs : List String) (s : State), s.alive = true → (s.port l).sending = some (.reply (.ok .rs fs)) →
    ∃ t, exec (.lineSent l) s = .next t ∧ t.power = s.power.sampled ∧ t.cleared ∧ (∀ k : Link, (t.port k).fresh) ∧
      t.start.mem = s.start.mem ∧ t.pending = s.pending ∧ t.free = s.free)

/-- R186, R187: a line of the script does what its record does, and the loader stands behind it. The clean end, which is also that of a
line whose CR is at the last address, brings RUNNING. A line refused, a line of more than 120 characters, a broken line and a clean end
with an edit left open each stop the script in CONFIG_FAULT with a SCRIPT report, and that edit is abandoned. The line numbers of LONG, of
a broken line and of such a clean end, and the script position after the stop, are the model's choice (log 29). -/
def Obligations.ScriptRead : Prop :=
  ∀ s : State, s.alive = true → s.start.phase = .starting → s.start.stopped = false → s.power.scriptPresent = true →
    (∀ (cs : List Char) (next : Nat) (i : Instr) (v : Verb) (u : State) (fs : List String),
      readScript s.start.mem (16384 - s.start.pos) s.start.pos [] = .line cs next →
      parseLine .station cs = .record i → verbOf i = some v → gate .script v s = none → runRecord .script i (s.setPos next) = .ok u fs →
      (next < 16384 →
        ∃ t, exec .scriptLine s = .next t ∧ t.start = { s.start with line := s.start.line + 1, pos := next } ∧ t.cfg = u.cfg ∧
          t.doors = u.doors ∧ t.trk = u.trk ∧ t.bus = u.bus ∧ t.sense = u.sense ∧ t.rel = u.rel ∧ t.auth = u.auth ∧
          t.power = s.power ∧ t.pending = s.pending) ∧
      (next = 16384 → u.ownsEdit .script = none →
        ∃ t, exec .scriptLine s = .next t ∧
          t.start = { s.start with phase := .running, stopped := true, line := s.start.line + 1, pos := 16384 } ∧ t.cfg = u.cfg ∧
          t.trk.sensorA.silence = some 200 ∧ t.trk.sensorB.silence = some 200 ∧ .starting ∉ t.sec.reasons ∧
          s.tells t ⟨.script, none, ["RUNNING", numF (s.start.line + 1)]⟩ ∧ t.rel = u.rel ∧ t.auth = u.auth ∧ t.power = s.power ∧
          t.pending = s.pending) ∧
      (next = 16384 → (u.ownsEdit .script).isSome = true →
        ∃ t, exec .scriptLine s = .next t ∧
          t.start = { s.start with phase := .configFault, stopped := true, line := s.start.line + 1, pos := 16384 } ∧
          t.ownsEdit .script = none ∧ s.tells t ⟨.script, none, ["CONFIG_FAULT", numF (s.start.line + 1), "STATE"]⟩)) ∧
    (∀ (next : Nat) (why : Reason),
      ((∃ cs : List Char, readScript s.start.mem (16384 - s.start.pos) s.start.pos [] = .line cs next ∧
          scriptTake (parseLine .station cs) (s.setPos next) = .error why) ∨
        (readScript s.start.mem (16384 - s.start.pos) s.start.pos [] = .long next ∧ why = .long) ∨
        (readScript s.start.mem (16384 - s.start.pos) s.start.pos [] = .broken next ∧ why = .badForm) ∨
        (readScript s.start.mem (16384 - s.start.pos) s.start.pos [] = .clean next ∧ (s.ownsEdit .script).isSome = true ∧
          why = .state)) →
      ∃ t, exec .scriptLine s = .next t ∧
        t.start = { s.start with phase := .configFault, stopped := true, line := s.start.line + 1, pos := next } ∧
        t.ownsEdit .script = none ∧ (∀ p : ProfileIx, s.ownsEdit .script = some p → (t.profile p).state = .invalid .abandoned) ∧
        t.trk.sensorA.silence = some 200 ∧ t.trk.sensorB.silence = some 200 ∧
        s.tells t ⟨.script, none, ["CONFIG_FAULT", numF (s.start.line + 1), why.text]⟩ ∧
        t.settings = s.settings ∧ s.sameBut [.start, .cfg, .trk, .sense, .bus, .doors] t ∧ s.inputsSame t) ∧
    (∀ next : Nat, readScript s.start.mem (16384 - s.start.pos) s.start.pos [] = .clean next → s.ownsEdit .script = none →
      ∃ t, exec .scriptLine s = .next t ∧ t.start = { s.start with phase := .running, stopped := true, pos := next } ∧
        t.trk.sensorA.silence = some 200 ∧ t.trk.sensorB.silence = some 200 ∧ t.cfg = s.cfg ∧ .starting ∉ t.sec.reasons ∧
        s.tells t ⟨.script, none, ["RUNNING", numF s.start.line]⟩ ∧
        s.sameBut [.start, .trk, .sense, .bus, .doors] t ∧ s.inputsSame t)
end

