-- ==== Sys2Proof/Laws/State.lean ====
section
/-! SUPPORT. One lemma for each field and each update of the state, so that no proof unfolds a record update. -/

namespace Sys2Proof.Machine

@[simp] theorem setDoor_pending (s : State) (i : DoorIx) (d : Door) : (s.setDoor i d).pending = s.pending := rfl
@[simp] theorem setDoor_power (s : State) (i : DoorIx) (d : Door) : (s.setDoor i d).power = s.power := rfl
@[simp] theorem setDoor_start (s : State) (i : DoorIx) (d : Door) : (s.setDoor i d).start = s.start := rfl
@[simp] theorem setDoor_cfg (s : State) (i : DoorIx) (d : Door) : (s.setDoor i d).cfg = s.cfg := rfl
@[simp] theorem setDoor_trk (s : State) (i : DoorIx) (d : Door) : (s.setDoor i d).trk = s.trk := rfl
@[simp] theorem setDoor_bus (s : State) (i : DoorIx) (d : Door) : (s.setDoor i d).bus = s.bus := rfl
@[simp] theorem setDoor_sense (s : State) (i : DoorIx) (d : Door) : (s.setDoor i d).sense = s.sense := rfl
@[simp] theorem setDoor_rel (s : State) (i : DoorIx) (d : Door) : (s.setDoor i d).rel = s.rel := rfl
@[simp] theorem setDoor_auth (s : State) (i : DoorIx) (d : Door) : (s.setDoor i d).auth = s.auth := rfl
@[simp] theorem setDoor_sec (s : State) (i : DoorIx) (d : Door) : (s.setDoor i d).sec = s.sec := rfl
@[simp] theorem setDoor_ports (s : State) (i : DoorIx) (d : Door) : (s.setDoor i d).ports = s.ports := rfl
@[simp] theorem setDoor_free (s : State) (i : DoorIx) (d : Door) : (s.setDoor i d).free = s.free := rfl

@[simp] theorem setHead_pending (s : State) (h : HeadIx) (x : Head) : (s.setHead h x).pending = s.pending := rfl
@[simp] theorem setHead_power (s : State) (h : HeadIx) (x : Head) : (s.setHead h x).power = s.power := rfl
@[simp] theorem setHead_start (s : State) (h : HeadIx) (x : Head) : (s.setHead h x).start = s.start := rfl
@[simp] theorem setHead_cfg (s : State) (h : HeadIx) (x : Head) : (s.setHead h x).cfg = s.cfg := rfl
@[simp] theorem setHead_doors (s : State) (h : HeadIx) (x : Head) : (s.setHead h x).doors = s.doors := rfl
@[simp] theorem setHead_trk (s : State) (h : HeadIx) (x : Head) : (s.setHead h x).trk = s.trk := rfl
@[simp] theorem setHead_bus (s : State) (h : HeadIx) (x : Head) : (s.setHead h x).bus = s.bus := rfl
@[simp] theorem setHead_rel (s : State) (h : HeadIx) (x : Head) : (s.setHead h x).rel = s.rel := rfl
@[simp] theorem setHead_auth (s : State) (h : HeadIx) (x : Head) : (s.setHead h x).auth = s.auth := rfl
@[simp] theorem setHead_sec (s : State) (h : HeadIx) (x : Head) : (s.setHead h x).sec = s.sec := rfl
@[simp] theorem setHead_ports (s : State) (h : HeadIx) (x : Head) : (s.setHead h x).ports = s.ports := rfl
@[simp] theorem setHead_free (s : State) (h : HeadIx) (x : Head) : (s.setHead h x).free = s.free := rfl

@[simp] theorem setZone_pending (s : State) (z : ZoneIx) (x : Option Zone) : (s.setZone z x).pending = s.pending := rfl
@[simp] theorem setZone_power (s : State) (z : ZoneIx) (x : Option Zone) : (s.setZone z x).power = s.power := rfl
@[simp] theorem setZone_start (s : State) (z : ZoneIx) (x : Option Zone) : (s.setZone z x).start = s.start := rfl
@[simp] theorem setZone_cfg (s : State) (z : ZoneIx) (x : Option Zone) : (s.setZone z x).cfg = s.cfg := rfl
@[simp] theorem setZone_doors (s : State) (z : ZoneIx) (x : Option Zone) : (s.setZone z x).doors = s.doors := rfl
@[simp] theorem setZone_trk (s : State) (z : ZoneIx) (x : Option Zone) : (s.setZone z x).trk = s.trk := rfl
@[simp] theorem setZone_bus (s : State) (z : ZoneIx) (x : Option Zone) : (s.setZone z x).bus = s.bus := rfl
@[simp] theorem setZone_rel (s : State) (z : ZoneIx) (x : Option Zone) : (s.setZone z x).rel = s.rel := rfl
@[simp] theorem setZone_auth (s : State) (z : ZoneIx) (x : Option Zone) : (s.setZone z x).auth = s.auth := rfl
@[simp] theorem setZone_sec (s : State) (z : ZoneIx) (x : Option Zone) : (s.setZone z x).sec = s.sec := rfl
@[simp] theorem setZone_ports (s : State) (z : ZoneIx) (x : Option Zone) : (s.setZone z x).ports = s.ports := rfl
@[simp] theorem setZone_free (s : State) (z : ZoneIx) (x : Option Zone) : (s.setZone z x).free = s.free := rfl

@[simp] theorem setScan_pending (s : State) (x : Scan) : (s.setScan x).pending = s.pending := rfl
@[simp] theorem setScan_power (s : State) (x : Scan) : (s.setScan x).power = s.power := rfl
@[simp] theorem setScan_start (s : State) (x : Scan) : (s.setScan x).start = s.start := rfl
@[simp] theorem setScan_cfg (s : State) (x : Scan) : (s.setScan x).cfg = s.cfg := rfl
@[simp] theorem setScan_doors (s : State) (x : Scan) : (s.setScan x).doors = s.doors := rfl
@[simp] theorem setScan_trk (s : State) (x : Scan) : (s.setScan x).trk = s.trk := rfl
@[simp] theorem setScan_bus (s : State) (x : Scan) : (s.setScan x).bus = s.bus := rfl
@[simp] theorem setScan_rel (s : State) (x : Scan) : (s.setScan x).rel = s.rel := rfl
@[simp] theorem setScan_auth (s : State) (x : Scan) : (s.setScan x).auth = s.auth := rfl
@[simp] theorem setScan_sec (s : State) (x : Scan) : (s.setScan x).sec = s.sec := rfl
@[simp] theorem setScan_ports (s : State) (x : Scan) : (s.setScan x).ports = s.ports := rfl
@[simp] theorem setScan_free (s : State) (x : Scan) : (s.setScan x).free = s.free := rfl

@[simp] theorem setProfile_pending (s : State) (p : ProfileIx) (x : Profile) : (s.setProfile p x).pending = s.pending := rfl
@[simp] theorem setProfile_power (s : State) (p : ProfileIx) (x : Profile) : (s.setProfile p x).power = s.power := rfl
@[simp] theorem setProfile_start (s : State) (p : ProfileIx) (x : Profile) : (s.setProfile p x).start = s.start := rfl
@[simp] theorem setProfile_doors (s : State) (p : ProfileIx) (x : Profile) : (s.setProfile p x).doors = s.doors := rfl
@[simp] theorem setProfile_trk (s : State) (p : ProfileIx) (x : Profile) : (s.setProfile p x).trk = s.trk := rfl
@[simp] theorem setProfile_bus (s : State) (p : ProfileIx) (x : Profile) : (s.setProfile p x).bus = s.bus := rfl
@[simp] theorem setProfile_sense (s : State) (p : ProfileIx) (x : Profile) : (s.setProfile p x).sense = s.sense := rfl
@[simp] theorem setProfile_rel (s : State) (p : ProfileIx) (x : Profile) : (s.setProfile p x).rel = s.rel := rfl
@[simp] theorem setProfile_auth (s : State) (p : ProfileIx) (x : Profile) : (s.setProfile p x).auth = s.auth := rfl
@[simp] theorem setProfile_sec (s : State) (p : ProfileIx) (x : Profile) : (s.setProfile p x).sec = s.sec := rfl
@[simp] theorem setProfile_ports (s : State) (p : ProfileIx) (x : Profile) : (s.setProfile p x).ports = s.ports := rfl
@[simp] theorem setProfile_free (s : State) (p : ProfileIx) (x : Profile) : (s.setProfile p x).free = s.free := rfl

@[simp] theorem setMark_pending (s : State) (m : MarkIx) (x : Option Mark) : (s.setMark m x).pending = s.pending := rfl
@[simp] theorem setMark_power (s : State) (m : MarkIx) (x : Option Mark) : (s.setMark m x).power = s.power := rfl
@[simp] theorem setMark_start (s : State) (m : MarkIx) (x : Option Mark) : (s.setMark m x).start = s.start := rfl
@[simp] theorem setMark_doors (s : State) (m : MarkIx) (x : Option Mark) : (s.setMark m x).doors = s.doors := rfl
@[simp] theorem setMark_trk (s : State) (m : MarkIx) (x : Option Mark) : (s.setMark m x).trk = s.trk := rfl
@[simp] theorem setMark_bus (s : State) (m : MarkIx) (x : Option Mark) : (s.setMark m x).bus = s.bus := rfl
@[simp] theorem setMark_sense (s : State) (m : MarkIx) (x : Option Mark) : (s.setMark m x).sense = s.sense := rfl
@[simp] theorem setMark_rel (s : State) (m : MarkIx) (x : Option Mark) : (s.setMark m x).rel = s.rel := rfl
@[simp] theorem setMark_auth (s : State) (m : MarkIx) (x : Option Mark) : (s.setMark m x).auth = s.auth := rfl
@[simp] theorem setMark_sec (s : State) (m : MarkIx) (x : Option Mark) : (s.setMark m x).sec = s.sec := rfl
@[simp] theorem setMark_ports (s : State) (m : MarkIx) (x : Option Mark) : (s.setMark m x).ports = s.ports := rfl
@[simp] theorem setMark_free (s : State) (m : MarkIx) (x : Option Mark) : (s.setMark m x).free = s.free := rfl

@[simp] theorem setBerthRec_pending (s : State) (b : Berth) : (s.setBerthRec b).pending = s.pending := rfl
@[simp] theorem setBerthRec_power (s : State) (b : Berth) : (s.setBerthRec b).power = s.power := rfl
@[simp] theorem setBerthRec_start (s : State) (b : Berth) : (s.setBerthRec b).start = s.start := rfl
@[simp] theorem setBerthRec_cfg (s : State) (b : Berth) : (s.setBerthRec b).cfg = s.cfg := rfl
@[simp] theorem setBerthRec_doors (s : State) (b : Berth) : (s.setBerthRec b).doors = s.doors := rfl
@[simp] theorem setBerthRec_bus (s : State) (b : Berth) : (s.setBerthRec b).bus = s.bus := rfl
@[simp] theorem setBerthRec_sense (s : State) (b : Berth) : (s.setBerthRec b).sense = s.sense := rfl
@[simp] theorem setBerthRec_rel (s : State) (b : Berth) : (s.setBerthRec b).rel = s.rel := rfl
@[simp] theorem setBerthRec_auth (s : State) (b : Berth) : (s.setBerthRec b).auth = s.auth := rfl
@[simp] theorem setBerthRec_sec (s : State) (b : Berth) : (s.setBerthRec b).sec = s.sec := rfl
@[simp] theorem setBerthRec_ports (s : State) (b : Berth) : (s.setBerthRec b).ports = s.ports := rfl
@[simp] theorem setBerthRec_free (s : State) (b : Berth) : (s.setBerthRec b).free = s.free := rfl

@[simp] theorem setTrk_pending (s : State) (t : Tracker) : (s.setTrk t).pending = s.pending := rfl
@[simp] theorem setTrk_power (s : State) (t : Tracker) : (s.setTrk t).power = s.power := rfl
@[simp] theorem setTrk_start (s : State) (t : Tracker) : (s.setTrk t).start = s.start := rfl
@[simp] theorem setTrk_cfg (s : State) (t : Tracker) : (s.setTrk t).cfg = s.cfg := rfl
@[simp] theorem setTrk_doors (s : State) (t : Tracker) : (s.setTrk t).doors = s.doors := rfl
@[simp] theorem setTrk_bus (s : State) (t : Tracker) : (s.setTrk t).bus = s.bus := rfl
@[simp] theorem setTrk_sense (s : State) (t : Tracker) : (s.setTrk t).sense = s.sense := rfl
@[simp] theorem setTrk_rel (s : State) (t : Tracker) : (s.setTrk t).rel = s.rel := rfl
@[simp] theorem setTrk_auth (s : State) (t : Tracker) : (s.setTrk t).auth = s.auth := rfl
@[simp] theorem setTrk_sec (s : State) (t : Tracker) : (s.setTrk t).sec = s.sec := rfl
@[simp] theorem setTrk_ports (s : State) (t : Tracker) : (s.setTrk t).ports = s.ports := rfl
@[simp] theorem setTrk_free (s : State) (t : Tracker) : (s.setTrk t).free = s.free := rfl

@[simp] theorem setRel_pending (s : State) (r : Release) : (s.setRel r).pending = s.pending := rfl
@[simp] theorem setRel_power (s : State) (r : Release) : (s.setRel r).power = s.power := rfl
@[simp] theorem setRel_start (s : State) (r : Release) : (s.setRel r).start = s.start := rfl
@[simp] theorem setRel_cfg (s : State) (r : Release) : (s.setRel r).cfg = s.cfg := rfl
@[simp] theorem setRel_doors (s : State) (r : Release) : (s.setRel r).doors = s.doors := rfl
@[simp] theorem setRel_trk (s : State) (r : Release) : (s.setRel r).trk = s.trk := rfl
@[simp] theorem setRel_bus (s : State) (r : Release) : (s.setRel r).bus = s.bus := rfl
@[simp] theorem setRel_sense (s : State) (r : Release) : (s.setRel r).sense = s.sense := rfl
@[simp] theorem setRel_auth (s : State) (r : Release) : (s.setRel r).auth = s.auth := rfl
@[simp] theorem setRel_sec (s : State) (r : Release) : (s.setRel r).sec = s.sec := rfl
@[simp] theorem setRel_ports (s : State) (r : Release) : (s.setRel r).ports = s.ports := rfl
@[simp] theorem setRel_free (s : State) (r : Release) : (s.setRel r).free = s.free := rfl

@[simp] theorem setAuth_pending (s : State) (a : Auth) : (s.setAuth a).pending = s.pending := rfl
@[simp] theorem setAuth_power (s : State) (a : Auth) : (s.setAuth a).power = s.power := rfl
@[simp] theorem setAuth_start (s : State) (a : Auth) : (s.setAuth a).start = s.start := rfl
@[simp] theorem setAuth_cfg (s : State) (a : Auth) : (s.setAuth a).cfg = s.cfg := rfl
@[simp] theorem setAuth_doors (s : State) (a : Auth) : (s.setAuth a).doors = s.doors := rfl
@[simp] theorem setAuth_trk (s : State) (a : Auth) : (s.setAuth a).trk = s.trk := rfl
@[simp] theorem setAuth_bus (s : State) (a : Auth) : (s.setAuth a).bus = s.bus := rfl
@[simp] theorem setAuth_sense (s : State) (a : Auth) : (s.setAuth a).sense = s.sense := rfl
@[simp] theorem setAuth_rel (s : State) (a : Auth) : (s.setAuth a).rel = s.rel := rfl
@[simp] theorem setAuth_sec (s : State) (a : Auth) : (s.setAuth a).sec = s.sec := rfl
@[simp] theorem setAuth_ports (s : State) (a : Auth) : (s.setAuth a).ports = s.ports := rfl
@[simp] theorem setAuth_free (s : State) (a : Auth) : (s.setAuth a).free = s.free := rfl

@[simp] theorem setBus_pending (s : State) (b : Bus) : (s.setBus b).pending = s.pending := rfl
@[simp] theorem setBus_power (s : State) (b : Bus) : (s.setBus b).power = s.power := rfl
@[simp] theorem setBus_start (s : State) (b : Bus) : (s.setBus b).start = s.start := rfl
@[simp] theorem setBus_cfg (s : State) (b : Bus) : (s.setBus b).cfg = s.cfg := rfl
@[simp] theorem setBus_doors (s : State) (b : Bus) : (s.setBus b).doors = s.doors := rfl
@[simp] theorem setBus_trk (s : State) (b : Bus) : (s.setBus b).trk = s.trk := rfl
@[simp] theorem setBus_sense (s : State) (b : Bus) : (s.setBus b).sense = s.sense := rfl
@[simp] theorem setBus_rel (s : State) (b : Bus) : (s.setBus b).rel = s.rel := rfl
@[simp] theorem setBus_auth (s : State) (b : Bus) : (s.setBus b).auth = s.auth := rfl
@[simp] theorem setBus_sec (s : State) (b : Bus) : (s.setBus b).sec = s.sec := rfl
@[simp] theorem setBus_ports (s : State) (b : Bus) : (s.setBus b).ports = s.ports := rfl
@[simp] theorem setBus_free (s : State) (b : Bus) : (s.setBus b).free = s.free := rfl

@[simp] theorem setPorts_pending (s : State) (p : Ports) : (s.setPorts p).pending = s.pending := rfl
@[simp] theorem setPorts_power (s : State) (p : Ports) : (s.setPorts p).power = s.power := rfl
@[simp] theorem setPorts_start (s : State) (p : Ports) : (s.setPorts p).start = s.start := rfl
@[simp] theorem setPorts_cfg (s : State) (p : Ports) : (s.setPorts p).cfg = s.cfg := rfl
@[simp] theorem setPorts_doors (s : State) (p : Ports) : (s.setPorts p).doors = s.doors := rfl
@[simp] theorem setPorts_trk (s : State) (p : Ports) : (s.setPorts p).trk = s.trk := rfl
@[simp] theorem setPorts_bus (s : State) (p : Ports) : (s.setPorts p).bus = s.bus := rfl
@[simp] theorem setPorts_sense (s : State) (p : Ports) : (s.setPorts p).sense = s.sense := rfl
@[simp] theorem setPorts_rel (s : State) (p : Ports) : (s.setPorts p).rel = s.rel := rfl
@[simp] theorem setPorts_auth (s : State) (p : Ports) : (s.setPorts p).auth = s.auth := rfl
@[simp] theorem setPorts_sec (s : State) (p : Ports) : (s.setPorts p).sec = s.sec := rfl
@[simp] theorem setPorts_free (s : State) (p : Ports) : (s.setPorts p).free = s.free := rfl

@[simp] theorem setPort_pending (s : State) (l : Link) (p : Port) : (s.setPort l p).pending = s.pending := rfl
@[simp] theorem setPort_power (s : State) (l : Link) (p : Port) : (s.setPort l p).power = s.power := rfl
@[simp] theorem setPort_start (s : State) (l : Link) (p : Port) : (s.setPort l p).start = s.start := rfl
@[simp] theorem setPort_cfg (s : State) (l : Link) (p : Port) : (s.setPort l p).cfg = s.cfg := rfl
@[simp] theorem setPort_doors (s : State) (l : Link) (p : Port) : (s.setPort l p).doors = s.doors := rfl
@[simp] theorem setPort_trk (s : State) (l : Link) (p : Port) : (s.setPort l p).trk = s.trk := rfl
@[simp] theorem setPort_bus (s : State) (l : Link) (p : Port) : (s.setPort l p).bus = s.bus := rfl
@[simp] theorem setPort_sense (s : State) (l : Link) (p : Port) : (s.setPort l p).sense = s.sense := rfl
@[simp] theorem setPort_rel (s : State) (l : Link) (p : Port) : (s.setPort l p).rel = s.rel := rfl
@[simp] theorem setPort_auth (s : State) (l : Link) (p : Port) : (s.setPort l p).auth = s.auth := rfl
@[simp] theorem setPort_sec (s : State) (l : Link) (p : Port) : (s.setPort l p).sec = s.sec := rfl
@[simp] theorem setPort_free (s : State) (l : Link) (p : Port) : (s.setPort l p).free = s.free := rfl

/-! What each update writes. -/

@[simp] theorem setTrk_trk (s : State) (t : Tracker) : (s.setTrk t).trk = t := rfl
@[simp] theorem setRel_rel (s : State) (r : Release) : (s.setRel r).rel = r := rfl
@[simp] theorem setAuth_auth (s : State) (a : Auth) : (s.setAuth a).auth = a := rfl
@[simp] theorem setBus_bus (s : State) (b : Bus) : (s.setBus b).bus = b := rfl
@[simp] theorem setPorts_ports (s : State) (p : Ports) : (s.setPorts p).ports = p := rfl
@[simp] theorem setBerthRec_berth (s : State) (b : Berth) : (s.setBerthRec b).berth = b := rfl
@[simp] theorem setTrk_berth (s : State) (t : Tracker) : (s.setTrk t).berth = t.berth := rfl
@[simp] theorem setScan_scan (s : State) (x : Scan) : (s.setScan x).sense.scan = x := rfl

@[simp] theorem setDoor_door_same (s : State) (i : DoorIx) (d : Door) : (s.setDoor i d).door i = d := by
  simp [State.setDoor, State.door]

@[simp] theorem setDoor_door_ne (s : State) {i k : DoorIx} (d : Door) (h : k ≠ i) : (s.setDoor i d).door k = s.door k := by
  have : i.val ≠ k.val := fun e => h (Fin.ext e.symm)
  simp [State.setDoor, State.door, this]

@[simp] theorem setHead_head_same (s : State) (h : HeadIx) (x : Head) : (s.setHead h x).head h = x := by
  simp [State.setHead, State.head]

@[simp] theorem setHead_head_ne (s : State) {h k : HeadIx} (x : Head) (e : k ≠ h) : (s.setHead h x).head k = s.head k := by
  have : h.val ≠ k.val := fun q => e (Fin.ext q.symm)
  simp [State.setHead, State.head, this]

@[simp] theorem setZone_zone_same (s : State) (z : ZoneIx) (x : Option Zone) : (s.setZone z x).zone z = x := by
  simp [State.setZone, State.zone]

@[simp] theorem setZone_zone_ne (s : State) {z k : ZoneIx} (x : Option Zone) (e : k ≠ z) : (s.setZone z x).zone k = s.zone k := by
  have : z.val ≠ k.val := fun q => e (Fin.ext q.symm)
  simp [State.setZone, State.zone, this]

@[simp] theorem setProfile_profile_same (s : State) (p : ProfileIx) (x : Profile) : (s.setProfile p x).profile p = x := by
  simp [State.setProfile, State.profile]

@[simp] theorem setMark_mark_same (s : State) (m : MarkIx) (x : Option Mark) : (s.setMark m x).mark m = x := by
  simp [State.setMark, State.mark]

@[simp] theorem setPort_port_same (s : State) (l : Link) (p : Port) : (s.setPort l p).port l = p := by
  cases l <;> rfl

theorem setPort_port_ne (s : State) {l k : Link} (p : Port) (h : k ≠ l) : (s.setPort l p).port k = s.port k := by
  cases l <;> cases k <;> first | rfl | exact absurd rfl h

@[simp] theorem setScan_heads (s : State) (x : Scan) : (s.setScan x).sense.heads = s.sense.heads := rfl
@[simp] theorem setScan_zones (s : State) (x : Scan) : (s.setScan x).sense.zones = s.sense.zones := rfl
@[simp] theorem setHead_scan (s : State) (h : HeadIx) (x : Head) : (s.setHead h x).sense.scan = s.sense.scan := rfl
@[simp] theorem setHead_zones (s : State) (h : HeadIx) (x : Head) : (s.setHead h x).sense.zones = s.sense.zones := rfl
@[simp] theorem setZone_scan (s : State) (z : ZoneIx) (x : Option Zone) : (s.setZone z x).sense.scan = s.sense.scan := rfl
@[simp] theorem setZone_heads (s : State) (z : ZoneIx) (x : Option Zone) : (s.setZone z x).sense.heads = s.sense.heads := rfl
@[simp] theorem setProfile_settings (s : State) (p : ProfileIx) (x : Profile) : (s.setProfile p x).cfg.settings = s.cfg.settings := rfl
@[simp] theorem setProfile_edit (s : State) (p : ProfileIx) (x : Profile) : (s.setProfile p x).cfg.edit = s.cfg.edit := rfl
@[simp] theorem setProfile_marks (s : State) (p : ProfileIx) (x : Profile) : (s.setProfile p x).cfg.marks = s.cfg.marks := rfl
@[simp] theorem setMark_settings (s : State) (m : MarkIx) (x : Option Mark) : (s.setMark m x).cfg.settings = s.cfg.settings := rfl
@[simp] theorem setMark_edit (s : State) (m : MarkIx) (x : Option Mark) : (s.setMark m x).cfg.edit = s.cfg.edit := rfl
@[simp] theorem setMark_profiles (s : State) (m : MarkIx) (x : Option Mark) : (s.setMark m x).cfg.profiles = s.cfg.profiles := rfl
@[simp] theorem setBerthRec_sensorA (s : State) (b : Berth) : (s.setBerthRec b).trk.sensorA = s.trk.sensorA := rfl
@[simp] theorem setBerthRec_sensorB (s : State) (b : Berth) : (s.setBerthRec b).trk.sensorB = s.trk.sensorB := rfl
@[simp] theorem setBerthRec_prevT (s : State) (b : Berth) : (s.setBerthRec b).trk.prevT = s.trk.prevT := rfl
@[simp] theorem setBerthRec_loss (s : State) (b : Berth) : (s.setBerthRec b).trk.loss = s.trk.loss := rfl
@[simp] theorem setBerthRec_expected (s : State) (b : Berth) : (s.setBerthRec b).trk.expected = s.trk.expected := rfl

/-! Sensors of a tracker, and the parts of a sample they hold. -/

@[simp] theorem setSensor_sensor_same (t : Tracker) (x : SensorId) (v : Sensor) : (t.setSensor x v).sensor x = v := by cases x <;> rfl
theorem setSensor_sensor_ne (t : Tracker) {x y : SensorId} (v : Sensor) (h : y ≠ x) : (t.setSensor x v).sensor y = t.sensor y := by
  cases x <;> cases y <;> first | rfl | exact absurd rfl h
@[simp] theorem setSensor_berth (t : Tracker) (x : SensorId) (v : Sensor) : (t.setSensor x v).berth = t.berth := by cases x <;> rfl
@[simp] theorem setSensor_prevT (t : Tracker) (x : SensorId) (v : Sensor) : (t.setSensor x v).prevT = t.prevT := by cases x <;> rfl
@[simp] theorem setSensor_loss (t : Tracker) (x : SensorId) (v : Sensor) : (t.setSensor x v).loss = t.loss := by cases x <;> rfl
@[simp] theorem setSensor_expected (t : Tracker) (x : SensorId) (v : Sensor) : (t.setSensor x v).expected = t.expected := by
  cases x <;> rfl
@[simp] theorem sampled_part (band : Nat) (x : Sample) (v : Sensor) : (v.sampled band x).part = v.part := by cases x <;> rfl
@[simp] theorem sampled_gap (band : Nat) (x : Sample) (v : Sensor) : (v.sampled band x).gap = v.gap := by cases x <;> rfl
@[simp] theorem sampled_ref (band : Nat) (x : Sample) (v : Sensor) : (v.sampled band x).ref = v.ref := by cases x <;> rfl

/-- A byte joined to fewer than six leaves fewer than six. -/
theorem joinSample_length (part : List Byte) (b : Byte) : (joinSample part b).1.length < 6 := by
  unfold joinSample
  split
  · decide
  · split
    · simp only [List.length_append, List.length_singleton]; assumption
    · exact Nat.zero_lt_succ 5

/-! The script position. -/

@[simp] theorem setPos_pos (n : Nat) (s : State) : (s.setPos n).start.pos = n := rfl
@[simp] theorem setPos_mem (n : Nat) (s : State) : (s.setPos n).start.mem = s.start.mem := rfl
@[simp] theorem setPos_phase (n : Nat) (s : State) : (s.setPos n).start.phase = s.start.phase := rfl
@[simp] theorem setPos_line (n : Nat) (s : State) : (s.setPos n).start.line = s.start.line := rfl
@[simp] theorem setPos_stopped (n : Nat) (s : State) : (s.setPos n).start.stopped = s.start.stopped := rfl
@[simp] theorem setPos_pending (n : Nat) (s : State) : (s.setPos n).pending = s.pending := rfl
@[simp] theorem setPos_free (n : Nat) (s : State) : (s.setPos n).free = s.free := rfl
@[simp] theorem setPos_power (n : Nat) (s : State) : (s.setPos n).power = s.power := rfl
@[simp] theorem setPos_cfg (n : Nat) (s : State) : (s.setPos n).cfg = s.cfg := rfl
@[simp] theorem setPos_doors (n : Nat) (s : State) : (s.setPos n).doors = s.doors := rfl
@[simp] theorem setPos_trk (n : Nat) (s : State) : (s.setPos n).trk = s.trk := rfl
@[simp] theorem setPos_bus (n : Nat) (s : State) : (s.setPos n).bus = s.bus := rfl
@[simp] theorem setPos_sense (n : Nat) (s : State) : (s.setPos n).sense = s.sense := rfl
@[simp] theorem setPos_rel (n : Nat) (s : State) : (s.setPos n).rel = s.rel := rfl
@[simp] theorem setPos_auth (n : Nat) (s : State) : (s.setPos n).auth = s.auth := rfl
@[simp] theorem setPos_sec (n : Nat) (s : State) : (s.setPos n).sec = s.sec := rfl
@[simp] theorem setPos_ports (n : Nat) (s : State) : (s.setPos n).ports = s.ports := rfl

/-! Accessors read one field. -/

/-- A door is read from the door vector alone. -/
theorem door_congr {s t : State} (h : t.doors = s.doors) (i : DoorIx) : t.door i = s.door i := by simp only [State.door, h]
theorem head_congr {s t : State} (h : t.sense = s.sense) (i : HeadIx) : t.head i = s.head i := by simp only [State.head, h]
theorem zone_congr {s t : State} (h : t.sense = s.sense) (i : ZoneIx) : t.zone i = s.zone i := by simp only [State.zone, h]
theorem berth_congr {s t : State} (h : t.trk = s.trk) : t.berth = s.berth := by simp only [State.berth, h]
theorem settings_congr {s t : State} (h : t.cfg = s.cfg) : t.settings = s.settings := by simp only [State.settings, h]

/-- A vector of doors is a set of 32 doors. -/
theorem doors_ext {s t : State} (h : ∀ i, t.door i = s.door i) : t.doors = s.doors := by
  apply Vector.ext
  intro i hi
  exact h ⟨i, hi⟩

end Sys2Proof.Machine
end

