-- ==== Sys2Proof/Laws/Events.lean ====
section
/-! SUPPORT. What the shared operations can do: reports and replies write ports alone; changes of doors leave the other blocks; a command leaves the queue, the serial memory and the model's counter. -/

namespace Sys2Proof.Machine

/-! Reports and replies: everything but the ports stays. -/

/-- Everything but the ports is the same. -/
def PortsOnly (s t : State) : Prop := t = s.setPorts t.ports

theorem PortsOnly.refl (s : State) : PortsOnly s s := rfl

theorem PortsOnly.trans {s t u : State} (h : PortsOnly s t) (k : PortsOnly t u) : PortsOnly s u := by
  unfold PortsOnly at *
  rw [k, h]
  rfl

theorem PortsOnly.doors {s t : State} (h : PortsOnly s t) : t.doors = s.doors := by rw [h]; rfl
theorem PortsOnly.trk {s t : State} (h : PortsOnly s t) : t.trk = s.trk := by rw [h]; rfl
theorem PortsOnly.sense {s t : State} (h : PortsOnly s t) : t.sense = s.sense := by rw [h]; rfl
theorem PortsOnly.rel {s t : State} (h : PortsOnly s t) : t.rel = s.rel := by rw [h]; rfl
theorem PortsOnly.start {s t : State} (h : PortsOnly s t) : t.start = s.start := by rw [h]; rfl

theorem offer_portsOnly (r : Report) (s : State) : PortsOnly s (offer r s) := rfl
theorem offerIf_portsOnly (b : Bool) (r : Report) (s : State) : PortsOnly s (offerIf b r s) := rfl
theorem offerTo_portsOnly (l : Link) (r : Report) (s : State) : PortsOnly s (offerTo l r s) := rfl
theorem answerOn_portsOnly (l : Link) (r : Reply) (s : State) : PortsOnly s (answerOn l r s) := rfl
theorem answerNow_portsOnly (l : Link) (r : Reply) (s : State) : PortsOnly s (answerNow l r s) := rfl
theorem finish_portsOnly (s0 s : State) : PortsOnly s (finish s0 s) := rfl
theorem offerCustody_portsOnly (ev : List String) (s : State) (i : DoorIx) : PortsOnly s (offerCustody ev s i) := rfl
theorem touchWatch_portsOnly (o : WatchObj) (s : State) : PortsOnly s (touchWatch o s) := rfl
theorem dropWatch_portsOnly (o : WatchObj) (s : State) : PortsOnly s (dropWatch o s) := rfl

/-- A fold keeps whatever each of its steps keeps. -/
theorem foldl_keeps {α : Type} (R : State → State → Prop) (refl : ∀ s, R s s) (trans : ∀ {s t u}, R s t → R t u → R s u)
    (f : State → α → State) (step : ∀ s x, R s (f s x)) (l : List α) (s : State) : R s (l.foldl f s) := by
  induction l generalizing s with
  | nil => exact refl s
  | cons x xs ih => exact trans (step s x) (ih (f s x))

theorem offers_portsOnly (rs : List Report) (s : State) : PortsOnly s (offers rs s) :=
  foldl_keeps PortsOnly PortsOnly.refl PortsOnly.trans _ (fun s r => offer_portsOnly r s) rs s

theorem watchEntry_portsOnly (i : Instr) (s : State) : PortsOnly s (watchEntry i s) := by
  unfold watchEntry
  split <;> (try split) <;> rfl

/-! What an operation on doors leaves: the queue, the pins, the phase, the configuration, the bus, the sensing blocks, the authority
unit, the counter, and the tracker but for the berth record. -/

/-- The blocks that a change of doors leaves alone. -/
structure DoorFrame (s t : State) : Prop where
  pending : t.pending = s.pending
  power : t.power = s.power
  start : t.start = s.start
  cfg : t.cfg = s.cfg
  bus : t.bus = s.bus
  sense : t.sense = s.sense
  auth : t.auth = s.auth
  free : t.free = s.free
  sensorA : t.trk.sensorA = s.trk.sensorA
  sensorB : t.trk.sensorB = s.trk.sensorB
  prevT : t.trk.prevT = s.trk.prevT
  loss : t.trk.loss = s.trk.loss
  expected : t.trk.expected = s.trk.expected
  map : t.berth.map = s.berth.map
  latches : t.rel.esrLatch = s.rel.esrLatch ∧ t.rel.trainLatch = s.rel.trainLatch ∧ t.rel.esrTimer = s.rel.esrTimer

theorem DoorFrame.refl (s : State) : DoorFrame s s :=
  ⟨rfl, rfl, rfl, rfl, rfl, rfl, rfl, rfl, rfl, rfl, rfl, rfl, rfl, rfl, rfl, rfl, rfl⟩

theorem DoorFrame.trans {s t u : State} (h : DoorFrame s t) (k : DoorFrame t u) : DoorFrame s u :=
  ⟨k.pending.trans h.pending, k.power.trans h.power, k.start.trans h.start, k.cfg.trans h.cfg, k.bus.trans h.bus,
   k.sense.trans h.sense, k.auth.trans h.auth, k.free.trans h.free, k.sensorA.trans h.sensorA, k.sensorB.trans h.sensorB,
   k.prevT.trans h.prevT, k.loss.trans h.loss, k.expected.trans h.expected, k.map.trans h.map,
   k.latches.1.trans h.latches.1, k.latches.2.1.trans h.latches.2.1, k.latches.2.2.trans h.latches.2.2⟩

theorem PortsOnly.doorFrame {s t : State} (h : PortsOnly s t) : DoorFrame s t := by
  rw [h]
  exact ⟨rfl, rfl, rfl, rfl, rfl, rfl, rfl, rfl, rfl, rfl, rfl, rfl, rfl, rfl, rfl, rfl, rfl⟩

theorem setDoor_doorFrame (s : State) (i : DoorIx) (d : Door) : DoorFrame s (s.setDoor i d) :=
  ⟨rfl, rfl, rfl, rfl, rfl, rfl, rfl, rfl, rfl, rfl, rfl, rfl, rfl, rfl, rfl, rfl, rfl⟩

theorem reeval_doorFrame (s : State) : DoorFrame s (reeval s) :=
  ⟨rfl, rfl, rfl, rfl, rfl, rfl, rfl, rfl, rfl, rfl, rfl, rfl, rfl, rfl, rfl, rfl, rfl⟩

theorem putDoor_doorFrame (i : DoorIx) (d : Door) (ev : List String) (s : State) : DoorFrame s (putDoor i d ev s) :=
  ⟨rfl, rfl, rfl, rfl, rfl, rfl, rfl, rfl, rfl, rfl, rfl, rfl, rfl, rfl, rfl, rfl, rfl⟩

theorem pendingMaint_doorFrame (s : State) (l : List DoorIx) : DoorFrame s (s.setRel { s.rel with pendingMaint := l }) :=
  ⟨rfl, rfl, rfl, rfl, rfl, rfl, rfl, rfl, rfl, rfl, rfl, rfl, rfl, rfl, rfl, rfl, rfl⟩

theorem foldl_doorFrame {α : Type} (f : State → α → State) (h : ∀ s x, DoorFrame s (f s x)) (l : List α) (s : State) :
    DoorFrame s (l.foldl f s) := foldl_keeps DoorFrame DoorFrame.refl DoorFrame.trans f h l s

theorem offerCustody_doorFrame (ev : List String) (s : State) (i : DoorIx) : DoorFrame s (offerCustody ev s i) :=
  (offerCustody_portsOnly ev s i).doorFrame

theorem grant_doorFrame (i : DoorIx) (s : State) : DoorFrame s (grant i s) :=
  ((pendingMaint_doorFrame s _).trans (putDoor_doorFrame _ _ _ _)).trans
    (foldl_doorFrame _ (fun t k => offerCustody_doorFrame _ t k) _ _)

theorem grantIf_doorFrame (s : State) (i : DoorIx) : DoorFrame s (grantIf s i) := by
  unfold grantIf; split
  · exact grant_doorFrame i s
  · exact DoorFrame.refl s

theorem cancelPending_doorFrame (c : String) (i : DoorIx) (s : State) : DoorFrame s (cancelPending c i s) := by
  unfold cancelPending; dsimp only; split
  · exact ((pendingMaint_doorFrame s _).trans (offerCustody_doorFrame _ _ _)).trans
      (foldl_doorFrame _ (fun t k => offerCustody_doorFrame _ t k) _ _)
  · exact DoorFrame.refl s

theorem cancelAll_doorFrame (c : String) (s : State) : DoorFrame s (cancelAll c s) :=
  foldl_doorFrame _ (fun t i => cancelPending_doorFrame c i t) _ _

theorem movedOpenExit_doorFrame (s : State) : DoorFrame s (movedOpenExit s) := by
  unfold movedOpenExit; dsimp only; split
  · exact ⟨rfl, rfl, rfl, rfl, rfl, rfl, rfl, rfl, rfl, rfl, rfl, rfl, rfl, rfl, rfl, rfl, rfl⟩
  · exact DoorFrame.refl s

theorem driveOpen_doorFrame (s : State) (i : DoorIx) : DoorFrame s (driveOpen s i) := by
  unfold driveOpen; dsimp only; split
  · exact putDoor_doorFrame _ _ _ _
  · exact DoorFrame.refl s

theorem announceDoor_doorFrame (i : DoorIx) (s : State) : DoorFrame s (announceDoor i s) :=
  ((driveOpen_doorFrame s i).trans (movedOpenExit_doorFrame _)).trans (grantIf_doorFrame _ i)

/-- What a change of one door can do to the other blocks: nothing but the berth state (R36) and the pending list (R142). -/
theorem changeDoor_doorFrame (i : DoorIx) (d : Door) (ev : List String) (s : State) : DoorFrame s (changeDoor i d ev s) := by
  unfold changeDoor
  dsimp only
  split
  · exact putDoor_doorFrame _ _ _ _
  · exact (putDoor_doorFrame _ _ _ _).trans (announceDoor_doorFrame _ _)

/-! Which doors an operation changes. -/

@[simp] theorem offer_door (r : Report) (s : State) (k : DoorIx) : (offer r s).door k = s.door k := rfl
@[simp] theorem offerIf_door (b : Bool) (r : Report) (s : State) (k : DoorIx) : (offerIf b r s).door k = s.door k := rfl
@[simp] theorem reeval_door (s : State) (k : DoorIx) : (reeval s).door k = s.door k := rfl
@[simp] theorem finish_door (s0 s : State) (k : DoorIx) : (finish s0 s).door k = s.door k := rfl
@[simp] theorem answerOn_door (l : Link) (r : Reply) (s : State) (k : DoorIx) : (answerOn l r s).door k = s.door k := rfl
theorem offers_door (rs : List Report) (s : State) (k : DoorIx) : (offers rs s).door k = s.door k :=
  door_congr (offers_portsOnly rs s).doors k

@[simp] theorem putDoor_door_same (i : DoorIx) (d : Door) (ev : List String) (s : State) :
    (putDoor i d ev s).door i = (s.door i).latch d := setDoor_door_same _ _ _

@[simp] theorem putDoor_door_ne {i k : DoorIx} (d : Door) (ev : List String) (s : State) (h : k ≠ i) :
    (putDoor i d ev s).door k = s.door k := setDoor_door_ne _ _ h

theorem foldl_offerCustody_door (l : List DoorIx) (ev : List String) (s : State) (k : DoorIx) :
    (l.foldl (offerCustody ev) s).door k = s.door k :=
  door_congr (foldl_keeps PortsOnly PortsOnly.refl PortsOnly.trans _ (fun t i => offerCustody_portsOnly ev t i) l s).doors k

theorem grant_door_ne {i k : DoorIx} (s : State) (h : k ≠ i) : (grant i s).door k = s.door k := by
  simp only [grant, foldl_offerCustody_door]
  exact (putDoor_door_ne _ _ _ h).trans rfl

theorem grantIf_door_ne {i k : DoorIx} (s : State) (h : k ≠ i) : (grantIf s i).door k = s.door k := by
  unfold grantIf; split
  · exact grant_door_ne s h
  · rfl

theorem cancelPending_door (c : String) (i k : DoorIx) (s : State) : (cancelPending c i s).door k = s.door k := by
  unfold cancelPending; dsimp only; split
  · simp only [foldl_offerCustody_door]; rfl
  · rfl

theorem movedOpenExit_door (s : State) (k : DoorIx) : (movedOpenExit s).door k = s.door k := by
  unfold movedOpenExit; dsimp only; split <;> rfl

theorem driveOpen_door_ne {i k : DoorIx} (s : State) (h : k ≠ i) : (driveOpen s i).door k = s.door k := by
  unfold driveOpen; dsimp only; split
  · exact putDoor_door_ne _ _ _ h
  · rfl

/-- A change of one door changes no other. -/
theorem changeDoor_door_ne {i k : DoorIx} (d : Door) (ev : List String) (s : State) (h : k ≠ i) :
    (changeDoor i d ev s).door k = s.door k := by
  have hp := putDoor_door_ne d ev s h
  unfold changeDoor
  dsimp only
  split
  · exact hp
  · unfold announceDoor
    rw [grantIf_door_ne _ h, movedOpenExit_door, driveOpen_door_ne _ h, hp]

/-- The door of a change that no reader acts on: not a {PLATFORM} map door that is closed, and not a pending door to be granted. -/
theorem changeDoor_door_same (i : DoorIx) (d : Door) (ev : List String) (s : State)
    (hp : (d.platformOnly && s.berth.isMapDoor i && d.state.isClosed) = false) (hg : s.rel.pendingMaint.contains i = false) :
    (changeDoor i d ev s).door i = (s.door i).latch d := by
  have hd : (putDoor i d ev s).door i = (s.door i).latch d := putDoor_door_same i d ev s
  unfold changeDoor
  dsimp only
  split
  · exact hd
  · have hb : (putDoor i d ev s).berth = s.berth := rfl
    have h1 : driveOpen (putDoor i d ev s) i = putDoor i d ev s := by
      unfold driveOpen
      dsimp only
      rw [hd, hb]
      have : ((s.door i).latch d).platformOnly = d.platformOnly := rfl
      have h2 : ((s.door i).latch d).state = d.state := rfl
      rw [this, h2, hp]
      rfl
    have hr : (movedOpenExit (putDoor i d ev s)).rel = s.rel := by unfold movedOpenExit; dsimp only; split <;> rfl
    unfold announceDoor grantIf
    rw [h1, hr, hg]
    simp only [Bool.false_and]
    exact (movedOpenExit_door _ i).trans hd

end Sys2Proof.Machine
end

