-- ==== Sys2Proof/Laws/Frames.lean ====
section
/-! SUPPORT. What every operation of every block keeps: the command queue, the serial memory, the model's counter, and at each port the line being sent, the replies, the request in hand and the held line. Links, deliveries and resets alone write those. -/

namespace Sys2Proof.Machine

/-- What a port holds of the lines it answers. -/
structure Lines (p q : Port) : Prop where
  sending : q.sending = p.sending
  replies : q.replies = p.replies
  inHand : q.inHand = p.inHand
  held : q.held = p.held

theorem Lines.refl (p : Port) : Lines p p := ⟨rfl, rfl, rfl, rfl⟩
theorem Lines.trans {p q r : Port} (h : Lines p q) (k : Lines q r) : Lines p r :=
  ⟨k.sending.trans h.sending, k.replies.trans h.replies, k.inHand.trans h.inHand, k.held.trans h.held⟩

/-- What a report or a cursor never touches in a port. -/
structure PortKept (p q : Port) : Prop extends Lines p q where
  buf : q.buf = p.buf
  discarding : q.discarding = p.discarding
  lineTimer : q.lineTimer = p.lineTimer
  mask : q.mask = p.mask
  watch : q.watch = p.watch

theorem PortKept.refl (p : Port) : PortKept p p := ⟨Lines.refl p, rfl, rfl, rfl, rfl, rfl⟩
theorem PortKept.trans {p q r : Port} (h : PortKept p q) (k : PortKept q r) : PortKept p r :=
  ⟨h.toLines.trans k.toLines, k.buf.trans h.buf, k.discarding.trans h.discarding, k.lineTimer.trans h.lineTimer,
   k.mask.trans h.mask, k.watch.trans h.watch⟩

/-- An update of report queue, loss flag and cursors alone. -/
theorem PortKept.of (p : Port) (q : List Report) (b : Bool) (m u : Cursor) (c : ListCursor) :
    PortKept p { p with queue := q, loss := b, mapCur := m, ulCur := u, listCur := c } :=
  ⟨⟨rfl, rfl, rfl, rfl⟩, rfl, rfl, rfl, rfl, rfl⟩

theorem accept_kept (r : Report) (p : Port) : PortKept p (p.accept r) := by
  unfold Port.accept
  split
  · exact PortKept.refl p
  · split
    · exact PortKept.of ..
    · split
      · exact PortKept.of ..
      · split
        · exact PortKept.of ..
        · split <;> exact PortKept.of ..

theorem listChanged_kept (n : ListName) (p : Port) : PortKept p (p.listChanged n) := by
  unfold Port.listChanged; split <;> exact PortKept.of ..

theorem refresh_kept (r : Report) (p : Port) : PortKept p (p.refresh r) := PortKept.of ..

theorem reportSecure_kept (old new : Secure) (p : Port) : PortKept p (p.reportSecure old new) := by
  unfold Port.reportSecure
  split
  · split
    · exact PortKept.refl p
    · exact refresh_kept _ p
  · exact accept_kept _ p

theorem watchSecure_kept (old new : Secure) (p : Port) : PortKept p (p.watchSecure old new) := by
  unfold Port.watchSecure; split
  · exact accept_kept _ p
  · exact PortKept.refl p

theorem listChangedUnless_kept (c : Prop) [Decidable c] (n : ListName) (p : Port) :
    PortKept p (if c then p else p.listChanged n) := by
  split
  · exact PortKept.refl p
  · exact listChanged_kept n p

theorem secureChanged_kept (old new : Secure) (p : Port) : PortKept p (p.secureChanged old new) :=
  (((listChangedUnless_kept _ .doors p).trans (listChangedUnless_kept _ .zones _)).trans (reportSecure_kept old new _)).trans
    (watchSecure_kept old new _)

theorem unwatch_lines (o : WatchObj) (p : Port) : Lines p (p.unwatch o) := by
  unfold Port.unwatch; split
  · exact (accept_kept _ p).toLines.trans ⟨rfl, rfl, rfl, rfl⟩
  · exact Lines.refl p

theorem touchPort_kept (o : WatchObj) (s : State) (l : Link) (p : Port) : PortKept p (touchPort o s l p) := by
  unfold touchPort; split
  · exact accept_kept _ p
  · exact PortKept.refl p

/-- What a record keeps that sets the port's own mask or watch. -/
structure KeepsLines (s t : State) : Prop where
  pending : t.pending = s.pending
  free : t.free = s.free
  mem : t.start.mem = s.start.mem
  lines : ∀ l : Link, Lines (s.port l) (t.port l)

/-- What every operation of the blocks keeps. -/
structure Keeps (s t : State) : Prop where
  pending : t.pending = s.pending
  free : t.free = s.free
  mem : t.start.mem = s.start.mem
  ports : ∀ l : Link, PortKept (s.port l) (t.port l)

theorem Keeps.toLines {s t : State} (h : Keeps s t) : KeepsLines s t := ⟨h.pending, h.free, h.mem, fun l => (h.ports l).toLines⟩
theorem KeepsLines.trans {s t u : State} (h : KeepsLines s t) (k : KeepsLines t u) : KeepsLines s u :=
  ⟨k.pending.trans h.pending, k.free.trans h.free, k.mem.trans h.mem, fun l => (h.lines l).trans (k.lines l)⟩

theorem Keeps.refl (s : State) : Keeps s s := ⟨rfl, rfl, rfl, fun _ => PortKept.refl _⟩
theorem Keeps.trans {s t u : State} (h : Keeps s t) (k : Keeps t u) : Keeps s u :=
  ⟨k.pending.trans h.pending, k.free.trans h.free, k.mem.trans h.mem, fun l => (h.ports l).trans (k.ports l)⟩

/-- An update that writes none of them. -/
theorem Keeps.of_eq {s t : State} (hp : t.pending = s.pending) (hf : t.free = s.free) (hm : t.start.mem = s.start.mem)
    (hq : t.ports = s.ports) : Keeps s t := ⟨hp, hf, hm, fun l => by simp only [State.port, hq]; exact PortKept.refl _⟩

theorem mapPorts_keeps (f : Port → Port) (hf : ∀ p, PortKept p (f p)) (s : State) : Keeps s (s.setPorts (s.ports.map f)) :=
  ⟨rfl, rfl, rfl, fun l => by cases l <;> exact hf _⟩

theorem mapPorts_keepsLines (f : Port → Port) (hf : ∀ p, Lines p (f p)) (s : State) : KeepsLines s (s.setPorts (s.ports.map f)) :=
  ⟨rfl, rfl, rfl, fun l => by cases l <;> exact hf _⟩

theorem foldl_keeps' {α : Type} (f : State → α → State) (h : ∀ s x, Keeps s (f s x)) (l : List α) (s : State) :
    Keeps s (l.foldl f s) := foldl_keeps Keeps Keeps.refl Keeps.trans f h l s

theorem offer_keeps (r : Report) (s : State) : Keeps s (offer r s) := mapPorts_keeps _ (accept_kept r) s

theorem offerIf_keeps (b : Bool) (r : Report) (s : State) : Keeps s (offerIf b r s) := by
  unfold offerIf; split
  · exact offer_keeps r s
  · exact ⟨rfl, rfl, rfl, fun _ => PortKept.refl _⟩

theorem offers_keeps (rs : List Report) (s : State) : Keeps s (offers rs s) := foldl_keeps' _ (fun s r => offer_keeps r s) rs s

theorem setPort_keeps (l : Link) (p : Port) (s : State) (h : PortKept (s.port l) p) : Keeps s (s.setPort l p) := by
  refine ⟨by cases l <;> rfl, by cases l <;> rfl, by cases l <;> rfl, fun k => ?_⟩
  by_cases e : k = l
  · subst e; rw [setPort_port_same]; exact h
  · rw [setPort_port_ne s p e]; exact PortKept.refl _

theorem setPort_keepsLines (l : Link) (p : Port) (s : State) (h : Lines (s.port l) p) : KeepsLines s (s.setPort l p) := by
  refine ⟨by cases l <;> rfl, by cases l <;> rfl, by cases l <;> rfl, fun k => ?_⟩
  by_cases e : k = l
  · subst e; rw [setPort_port_same]; exact h
  · rw [setPort_port_ne s p e]; exact Lines.refl _

theorem offerTo_keeps (l : Link) (r : Report) (s : State) : Keeps s (offerTo l r s) := setPort_keeps l _ s (accept_kept r _)

theorem reeval_keeps (s : State) : Keeps s (reeval s) :=
  ⟨rfl, rfl, rfl, fun l => by cases l <;> exact secureChanged_kept _ _ _⟩

theorem touchWatch_keeps (o : WatchObj) (s : State) : Keeps s (touchWatch o s) :=
  ⟨rfl, rfl, rfl, fun l => by cases l <;> exact touchPort_kept _ _ _ _⟩

theorem dropWatch_keeps (o : WatchObj) (s : State) : KeepsLines s (dropWatch o s) := mapPorts_keepsLines _ (unwatch_lines o) s

theorem watchEntry_keeps (i : Instr) (s : State) : KeepsLines s (watchEntry i s) := by
  unfold watchEntry
  split <;> (try split) <;> first | exact (Keeps.refl s).toLines | exact (touchWatch_keeps _ _).toLines | exact dropWatch_keeps _ _

theorem profileListChanged_keeps (p : ProfileIx) (s : State) : Keeps s (profileListChanged p s) :=
  mapPorts_keeps _ (listChanged_kept _) s

/-! Doors. -/

theorem setDoor_keeps (i : DoorIx) (d : Door) (s : State) : Keeps s (s.setDoor i d) := Keeps.of_eq rfl rfl rfl rfl

theorem putDoor_keeps (i : DoorIx) (d : Door) (ev : List String) (s : State) : Keeps s (putDoor i d ev s) :=
  (((setDoor_keeps i _ s).trans (offerIf_keeps _ _ _)).trans (offerIf_keeps _ _ _)).trans (reeval_keeps _)

theorem setRel_keeps (r : Release) (s : State) : Keeps s (s.setRel r) := Keeps.of_eq rfl rfl rfl rfl
theorem setTrk_keeps (r : Tracker) (s : State) : Keeps s (s.setTrk r) := Keeps.of_eq rfl rfl rfl rfl
theorem setAuth_keeps (r : Auth) (s : State) : Keeps s (s.setAuth r) := Keeps.of_eq rfl rfl rfl rfl
theorem setBus_keeps (r : Bus) (s : State) : Keeps s (s.setBus r) := Keeps.of_eq rfl rfl rfl rfl
theorem setScan_keeps (r : Scan) (s : State) : Keeps s (s.setScan r) := Keeps.of_eq rfl rfl rfl rfl
theorem setHead_keeps (h : HeadIx) (x : Head) (s : State) : Keeps s (s.setHead h x) := Keeps.of_eq rfl rfl rfl rfl
theorem setZone_keeps (z : ZoneIx) (x : Option Zone) (s : State) : Keeps s (s.setZone z x) := Keeps.of_eq rfl rfl rfl rfl
theorem setProfile_keeps (p : ProfileIx) (x : Profile) (s : State) : Keeps s (s.setProfile p x) := Keeps.of_eq rfl rfl rfl rfl
theorem setMark_keeps (m : MarkIx) (x : Option Mark) (s : State) : Keeps s (s.setMark m x) := Keeps.of_eq rfl rfl rfl rfl
theorem setBerthRec_keeps (b : Berth) (s : State) : Keeps s (s.setBerthRec b) := Keeps.of_eq rfl rfl rfl rfl

theorem offerCustody_keeps (ev : List String) (s : State) (i : DoorIx) : Keeps s (offerCustody ev s i) := offer_keeps _ s

theorem grant_keeps (i : DoorIx) (s : State) : Keeps s (grant i s) :=
  ((setRel_keeps _ s).trans (putDoor_keeps _ _ _ _)).trans (foldl_keeps' _ (fun t k => offerCustody_keeps _ t k) _ _)

theorem grantIf_keeps (s : State) (i : DoorIx) : Keeps s (grantIf s i) := by
  unfold grantIf; split
  · exact grant_keeps i s
  · exact Keeps.refl s

theorem cancelPending_keeps (c : String) (i : DoorIx) (s : State) : Keeps s (cancelPending c i s) := by
  unfold cancelPending; dsimp only; split
  · exact ((setRel_keeps _ s).trans (offerCustody_keeps _ _ _)).trans (foldl_keeps' _ (fun t k => offerCustody_keeps _ t k) _ _)
  · exact Keeps.refl s

theorem cancelAll_keeps (c : String) (s : State) : Keeps s (cancelAll c s) := foldl_keeps' _ (fun t i => cancelPending_keeps c i t) _ _

theorem movedOpenExit_keeps (s : State) : Keeps s (movedOpenExit s) := by
  unfold movedOpenExit; dsimp only; split
  · exact ((setBerthRec_keeps _ s).trans (offer_keeps _ _)).trans (reeval_keeps _)
  · exact Keeps.refl s

theorem driveOpen_keeps (s : State) (i : DoorIx) : Keeps s (driveOpen s i) := by
  unfold driveOpen; dsimp only; split
  · exact putDoor_keeps _ _ _ _
  · exact Keeps.refl s

theorem announceDoor_keeps (i : DoorIx) (s : State) : Keeps s (announceDoor i s) :=
  ((driveOpen_keeps s i).trans (movedOpenExit_keeps _)).trans (grantIf_keeps _ i)

theorem changeDoor_keeps (i : DoorIx) (d : Door) (ev : List String) (s : State) : Keeps s (changeDoor i d ev s) := by
  unfold changeDoor; dsimp only; split
  · exact putDoor_keeps _ _ _ _
  · exact (putDoor_keeps _ _ _ _).trans (announceDoor_keeps _ _)

theorem egressReopen_keeps (s : State) (i : DoorIx) : Keeps s (egressReopen s i) := by
  unfold egressReopen; split
  · exact ((changeDoor_keeps _ _ _ _).trans (setBerthRec_keeps _ _)).trans (offer_keeps _ _)
  · exact Keeps.refl s

theorem egressAtLock_keeps (b : Bool) (i : DoorIx) (s : State) : Keeps s (egressAtLock b i s) := by
  unfold egressAtLock; split
  · exact egressReopen_keeps s i
  · exact Keeps.refl s

theorem warnCheck_keeps (s : State) (i : DoorIx) : Keeps s (warnCheck s i) := setDoor_keeps _ _ s

theorem groupCommand_keeps (f : State → DoorIx → Door × Bool) (is : List DoorIx) (s : State) : Keeps s (groupCommand f is s).1 := by
  unfold groupCommand
  suffices h : ∀ (acc : State × Nat × Nat), Keeps s acc.1 → Keeps s (is.foldl (fun acc i =>
      let r := f acc.1 i
      if r.2 then (changeDoor i r.1 [] acc.1, acc.2.1 + 1, acc.2.2) else (acc.1, acc.2.1, acc.2.2 + 1)) acc).1 from h _ (Keeps.refl s)
  induction is with
  | nil => intro acc h; exact h
  | cons i is ih =>
    intro acc h
    refine ih _ ?_
    dsimp only
    split
    · exact h.trans (changeDoor_keeps _ _ _ _)
    · exact h

/-! Release unit. -/

theorem takeDoor_keeps (s : State) (i : DoorIx) : Keeps s (takeDoor s i) := by
  unfold takeDoor; split
  · exact ((cancelPending_keeps _ _ _).trans (changeDoor_keeps _ _ _ _)).trans (offerIf_keeps _ _ _)
  · exact Keeps.refl s

theorem takeMapDoors_keeps (s : State) : Keeps s (takeMapDoors s) := foldl_keeps' _ (fun t (e : MapEntry) => takeDoor_keeps t e.j) _ _

/-- The end of both branches of a latch that is set. -/
theorem latched_keeps (s : State) :
    Keeps s (if s.berth.state.takesRelease = true then offer (releaseReport s.takenCount (takeMapDoors s)) (takeMapDoors s)
      else offer (releaseReport 0 s) s) := by
  split
  · exact (takeMapDoors_keeps s).trans (offer_keeps _ _)
  · exact offer_keeps _ _

theorem setLatch_keeps (b : Bool) (s : State) : Keeps s (setLatch b s) := by
  have h (r : Release) : Keeps s (reeval (s.setRel r)) := (setRel_keeps r s).trans (reeval_keeps _)
  have k (c : Bool) (r : Release) : Keeps s (if c = true then s else
      if (reeval (s.setRel r)).berth.state.takesRelease = true then
        offer (releaseReport (reeval (s.setRel r)).takenCount (takeMapDoors (reeval (s.setRel r)))) (takeMapDoors (reeval (s.setRel r)))
      else offer (releaseReport 0 (reeval (s.setRel r))) (reeval (s.setRel r))) := by
    split
    · exact Keeps.refl s
    · exact (h r).trans (latched_keeps _)
  unfold setLatch
  cases b
  · exact k s.rel.trainLatch { s.rel with trainLatch := true }
  · exact k s.rel.esrLatch { s.rel with esrLatch := true }

theorem releaseTakes_keeps (s : State) : Keeps s (releaseTakes s) := by
  have h (l : List MapEntry) : Keeps s (l.foldl (fun t (e : MapEntry) => driveOpen t e.j) (takeMapDoors s)) :=
    (takeMapDoors_keeps s).trans (foldl_keeps' _ (fun t (e : MapEntry) => driveOpen_keeps t e.j) l _)
  have k (b c : Bool) (n : Nat) (u : State) (hu : Keeps s u) :
      Keeps s (if b = true then (if c = true then u else offer (releaseReport n u) u) else s) := by
    split
    · split
      · exact hu
      · exact hu.trans (offer_keeps _ _)
    · exact Keeps.refl s
  exact k s.rel.active (s.takenCount == 0) s.takenCount _ (h _)

theorem releaseOne_keeps (s : State) (i : DoorIx) : Keeps s (releaseOne s i) := by
  unfold releaseOne; dsimp only; split
  · exact changeDoor_keeps _ _ _ _
  · exact Keeps.refl s

theorem releaseMapCleared_keeps (s : State) : Keeps s (releaseMapCleared s) := by
  unfold releaseMapCleared; dsimp only; split
  · exact (foldl_keeps' _ releaseOne_keeps _ _).trans (offer_keeps _ _)
  · exact Keeps.refl s

theorem judgePending_keeps (s : State) : Keeps s (judgePending s) := foldl_keeps' _ grantIf_keeps _ _

theorem takeIfReleased_keeps (i : DoorIx) (s : State) : Keeps s (takeIfReleased i s) := by
  unfold takeIfReleased; dsimp only; split
  · exact (takeDoor_keeps _ _).trans (offer_keeps _ _)
  · exact Keeps.refl s

theorem returnDoor_keeps (i : DoorIx) (d : Door) (ev : List String) (s : State) : Keeps s (returnDoor i d ev s) := by
  have h := (putDoor_keeps i d ev s).trans (takeIfReleased_keeps i _)
  unfold returnDoor; dsimp only; split
  · exact h
  · exact h.trans (announceDoor_keeps _ _)

theorem handlePath_keeps (i : DoorIx) (s : State) : Keeps s (handlePath i s) := by
  unfold handlePath; dsimp only; split
  · exact offer_keeps _ _
  · exact (((cancelPending_keeps _ _ _).trans (offers_keeps _ _)).trans (changeDoor_keeps _ _ _ _)).trans (offer_keeps _ _)

theorem isolate_keeps (i : DoorIx) (s : State) : Keeps s (isolate i s) :=
  (cancelPending_keeps _ _ _).trans (changeDoor_keeps _ _ _ _)

theorem unisolate_keeps (i : DoorIx) (s : State) : Keeps s (unisolate i s) := by
  unfold unisolate; dsimp only; split
  · exact (changeDoor_keeps _ _ _ _).trans (handlePath_keeps _ _)
  · exact changeDoor_keeps _ _ _ _

theorem esrChange_keeps (v : ReleaseInputs) (s : State) : Keeps s (esrChange v s) := Keeps.of_eq rfl rfl rfl rfl

theorem esrExpiry_keeps (s : State) : Keeps s (esrExpiry s) := by
  unfold esrExpiry; split
  · exact Keeps.refl s
  · exact (setRel_keeps _ s).trans (setLatch_keeps _ _)

theorem onDoorTimer_keeps (j : Nat) (s : State) (k : DoorIx → State) (h : ∀ i, Keeps s (k i)) : Keeps s (onDoorTimer j s k) := by
  unfold onDoorTimer; split
  · exact Keeps.refl s
  · exact h _

theorem testFails_keeps (ph : TestPhase) (r : TestResult) (f : FaultReason) (j : Nat) (s : State) : Keeps s (testFails ph r f j s) := by
  refine onDoorTimer_keeps j s _ fun i => ?_
  dsimp only; split
  · exact (offers_keeps _ _).trans (changeDoor_keeps _ _ _ _)
  · exact Keeps.refl s

theorem testLockExpired_keeps (j : Nat) (s : State) : Keeps s (testLockExpired j s) := by
  refine onDoorTimer_keeps j s _ fun i => ?_
  split
  · exact testFails_keeps _ _ _ _ _
  · exact Keeps.refl s

theorem dwellExpired_keeps (j : Nat) (s : State) : Keeps s (dwellExpired j s) := by
  refine onDoorTimer_keeps j s _ fun i => ?_
  dsimp only; split
  · exact (offers_keeps _ _).trans (changeDoor_keeps _ _ _ _)
  · exact Keeps.refl s

/-! Sequencer. -/

theorem setHold_keeps (b : Bool) (s : State) : Keeps s (setHold b s) := (setAuth_keeps _ s).trans (offer_keeps _ _)

theorem freezeOne_keeps (s : State) (i : DoorIx) : Keeps s (freezeOne s i) := by
  unfold freezeOne; split
  · exact changeDoor_keeps _ _ _ _
  · exact Keeps.refl s

theorem thawOne_keeps (s : State) (i : DoorIx) : Keeps s (thawOne s i) := by
  unfold thawOne; split
  · exact changeDoor_keeps _ _ _ _
  · exact Keeps.refl s

/-- A timer of a door either changes that door or does nothing. -/
theorem ifChange_keeps (b : Bool) (i : DoorIx) (d : Door) (s : State) : Keeps s (if b = true then changeDoor i d [] s else s) := by
  split
  · exact changeDoor_keeps _ _ _ _
  · exact Keeps.refl s

theorem warningExpired_keeps (j : Nat) (s : State) : Keeps s (warningExpired j s) := onDoorTimer_keeps j s _ fun _ => ifChange_keeps _ _ _ _
theorem maxHoldExpired_keeps (j : Nat) (s : State) : Keeps s (maxHoldExpired j s) := onDoorTimer_keeps j s _ fun _ => ifChange_keeps _ _ _ _
theorem pauseExpired_keeps (j : Nat) (s : State) : Keeps s (pauseExpired j s) := onDoorTimer_keeps j s _ fun _ => ifChange_keeps _ _ _ _
theorem openingExpired_keeps (j : Nat) (s : State) : Keeps s (openingExpired j s) := onDoorTimer_keeps j s _ fun _ => ifChange_keeps _ _ _ _
theorem closingExpired_keeps (j : Nat) (s : State) : Keeps s (closingExpired j s) := onDoorTimer_keeps j s _ fun _ => ifChange_keeps _ _ _ _
theorem lockExpired_keeps (j : Nat) (s : State) : Keeps s (lockExpired j s) := onDoorTimer_keeps j s _ fun _ => ifChange_keeps _ _ _ _

/-! Sensing. -/

theorem zoneToSequencer_keeps (c : ZoneCfg) (n : ZoneState) (s : State) : Keeps s (zoneToSequencer c n s) := by
  unfold zoneToSequencer; split
  · exact foldl_keeps' _ warnCheck_keeps _ _
  · split
    · exact foldl_keeps' _ egressReopen_keeps _ _
    · exact Keeps.refl s

theorem putZone_keeps (z : ZoneIx) (x : Zone) (s : State) : Keeps s (putZone z x s) := by
  have h (b : Bool) : Keeps s (if b = true then s.setZone z (some x) else
      zoneToSequencer x.cfg x.state (reeval (offer (zoneReport z x (s.setZone z (some x)).gapDepth) (s.setZone z (some x))))) := by
    split
    · exact setZone_keeps z (some x) s
    · exact (((setZone_keeps z (some x) s).trans (offer_keeps _ _)).trans (reeval_keeps _)).trans (zoneToSequencer_keeps _ _ _)
  exact h _

theorem refreshZone_keeps (s : State) (z : ZoneIx) : Keeps s (refreshZone s z) := by
  unfold refreshZone; split
  · exact Keeps.refl s
  · exact putZone_keeps _ _ _

theorem refreshZones_keeps (s : State) : Keeps s (refreshZones s) := foldl_keeps' _ refreshZone_keeps _ _

theorem putHead_keeps (h : HeadIx) (x : Head) (s : State) : Keeps s (putHead h x s) := by
  unfold putHead
  dsimp only
  refine Keeps.trans ?_ (offerIf_keeps _ _ _)
  have h1 : ∀ y : Head, ∀ b : Bool, Keeps s (if b = true then (s.setHead h y).setScan ((s.setHead h y).sense.scan.leave h) else s.setHead h y) := by
    intro y b; split
    · exact (setHead_keeps h y s).trans (setScan_keeps _ _)
    · exact setHead_keeps h y s
  have h2 : ∀ (t : State) (b : Bool), Keeps s t → Keeps s (if b = true then t else t.setScan t.sense.scan.restart) := by
    intro t b ht; split
    · exact ht
    · exact ht.trans (setScan_keeps _ _)
  exact h2 _ _ (h1 _ _)

theorem takeMiss_keeps (s : State) : Keeps s (takeMiss s) := by
  unfold takeMiss; split
  · exact Keeps.refl s
  · dsimp only; split
    · exact Keeps.refl s
    · split
      · exact ((setScan_keeps _ s).trans (putHead_keeps _ _ _)).trans (refreshZones_keeps _)
      · exact setScan_keeps _ s

theorem beginSlot_keeps (s : State) : Keeps s (beginSlot s) := by
  unfold beginSlot; split
  · split
    · exact Keeps.refl s
    · exact setScan_keeps _ s
  · split <;> exact setScan_keeps _ s

theorem frameSlotTaken_keeps (s : State) : Keeps s (frameSlotTaken s) := by
  unfold frameSlotTaken; split
  · exact Keeps.refl s
  · exact (takeMiss_keeps s).trans (beginSlot_keeps _)

theorem evalZone_keeps (h : HeadIx) (c : BitVec 64) (s : State) (z : ZoneIx) : Keeps s (evalZone h c s z) := by
  unfold evalZone; split
  · exact Keeps.refl s
  · split
    · exact putZone_keeps _ _ _
    · exact Keeps.refl s

theorem headReplied_keeps (h : HeadIx) (st : HeadStatus) (c : BitVec 64) (s : State) : Keeps s (headReplied h st c s) := by
  have k := (putHead_keeps h ((s.head h).replied st c) s).trans (refreshZones_keeps _)
  unfold headReplied; dsimp only; split
  · exact k
  · exact k.trans (foldl_keeps' _ (evalZone_keeps h c) _ _)

theorem headReply_keeps (bs : List Byte) (s : State) : Keeps s (headReply bs s) := by
  unfold headReply; split
  · exact Keeps.refl s
  · split
    · exact Keeps.refl s
    · split
      · exact setScan_keeps _ s
      · dsimp only; split
        · exact (setScan_keeps _ s).trans (headReplied_keeps _ _ _ _)
        · exact setScan_keeps _ s

theorem frameAgeExpired_keeps (h : Nat) (s : State) : Keeps s (frameAgeExpired h s) := by
  unfold frameAgeExpired; split
  · exact Keeps.refl s
  · dsimp only; split
    · exact (putHead_keeps _ _ _).trans (refreshZones_keeps _)
    · exact Keeps.refl s

theorem rewindowOne_keeps (old : Option Nat) (s : State) (z : ZoneIx) : Keeps s (rewindowOne old s z) := by
  unfold rewindowOne; split
  · exact Keeps.refl s
  · exact setZone_keeps _ _ _

theorem mapToSensing_keeps (m : Bool) (old : Option Nat) (s : State) : Keeps s (mapToSensing m old s) :=
  ((foldl_keeps' _ (fun t h => putHead_keeps h _ t) _ s).trans (foldl_keeps' _ (rewindowOne_keeps old) _ _)).trans (refreshZones_keeps _)

theorem dropZone_keeps (z : ZoneIx) (s : State) : Keeps s (dropZone z s) := by
  unfold dropZone; split
  · exact Keeps.refl s
  · exact ((setZone_keeps _ _ _).trans (reeval_keeps _)).trans (zoneToSequencer_keeps _ _ _)

/-! Authority and berth. -/

theorem judgeSupervision_keeps (s : State) : Keeps s (judgeSupervision s) := setAuth_keeps _ s
theorem superviseRecord_keeps (s : State) : Keeps s (superviseRecord s) := (setAuth_keeps _ s).trans (offerIf_keeps _ _ _)

theorem supervisionExpired_keeps (s : State) : Keeps s (supervisionExpired s) := by
  unfold supervisionExpired; split
  · exact Keeps.refl s
  · exact (setAuth_keeps _ s).trans (offer_keeps _ _)
  · exact ((setAuth_keeps _ s).trans (offer_keeps _ _)).trans (offer_keeps _ _)
  · exact Keeps.refl s

theorem keyChanged_keeps (a b c : Bool) (s : State) : Keeps s (keyChanged a b c s) := by
  unfold keyChanged
  dsimp only
  refine Keeps.trans ?_ (judgeSupervision_keeps _)
  have h : Keeps s { s with power := { s.power with auto := a, loc := b, maint := c }, auth := s.auth.keyed (readKey a b c) } :=
    Keeps.of_eq rfl rfl rfl rfl
  split
  · exact (((h.trans (offerIf_keeps _ _ _)).trans (offerIf_keeps _ _ _)).trans (offerIf_keeps _ _ _)).trans (cancelAll_keeps _ _)
  · exact ((h.trans (offerIf_keeps _ _ _)).trans (offerIf_keeps _ _ _)).trans (offerIf_keeps _ _ _)

theorem keyInput_keeps (a b c : Bool) (s : State) : Keeps s (keyInput a b c s) := by
  unfold keyInput; split
  · exact Keeps.refl s
  · exact keyChanged_keeps _ _ _ _

theorem berthToReaders_keeps (o n : BerthState) (g : Option Nat) (s : State) : Keeps s (berthToReaders o n g s) := by
  unfold berthToReaders; split
  · exact (mapToSensing_keeps _ _ _).trans (releaseTakes_keeps _)
  · split
    · exact ((mapToSensing_keeps _ _ _).trans (releaseMapCleared_keeps _)).trans (judgePending_keeps _)
    · split
      · exact releaseTakes_keeps s
      · exact Keeps.refl s

theorem changeTrk_keeps (t : Tracker) (s : State) : Keeps s (changeTrk t s) := by
  have h : Keeps s (offerIf (t.berth.state == .movedOpen && s.berth.state != .movedOpen)
      (movedReport (offerIf (decide (s.berth ≠ t.berth)) (berthReport t.berth) (s.setTrk t)))
      (offerIf (decide (s.berth ≠ t.berth)) (berthReport t.berth) (s.setTrk t))) :=
    ((setTrk_keeps t s).trans (offerIf_keeps _ _ _)).trans (offerIf_keeps _ _ _)
  unfold changeTrk
  dsimp only
  split
  · exact h
  · refine Keeps.trans ?_ (berthToReaders_keeps _ _ _ _)
    refine Keeps.trans ?_ (reeval_keeps _)
    refine Keeps.trans ?_ (judgeSupervision_keeps _)
    refine h.trans ?_
    split
    · exact mapPorts_keeps Port.mapChanged (fun _ => PortKept.of ..) _
    · exact Keeps.of_eq rfl rfl rfl rfl

theorem toEmpty_keeps (s : State) : Keeps s (toEmpty s) := changeTrk_keeps _ s
theorem toApproach_keeps (n : Nat) (s : State) : Keeps s (toApproach n s) := changeTrk_keeps _ s
theorem motionToApproach_keeps (s : State) : Keeps s (motionToApproach s) := changeTrk_keeps _ s
theorem approachEntry_keeps (s : State) : Keeps s (approachEntry s) := changeTrk_keeps _ s

theorem detectApproach_keeps (s : State) : Keeps s (detectApproach s) := by
  unfold detectApproach; split
  · exact Keeps.refl s
  · split
    · exact approachEntry_keeps s
    · exact Keeps.refl s

theorem motionOfMap_keeps (s : State) : Keeps s (motionOfMap s) := by
  unfold motionOfMap
  dsimp only
  split <;> (try split) <;> first | exact Keeps.refl s | exact changeTrk_keeps _ s

theorem motion_keeps (s : State) : Keeps s (motion s) := by
  unfold motion
  split <;> first | exact motionToApproach_keeps s | exact motionOfMap_keeps s | exact Keeps.refl s

theorem crossMark_keeps (m : MarkIx) (k : Mark) (b : Bool) (t : Nat) (s : State) : Keeps s (crossMark m k b t s) := by
  unfold crossMark; split
  · exact offer_keeps _ s
  · split
    · exact (changeTrk_keeps _ s).trans (offer_keeps _ _)
    · exact Keeps.refl s
  · split
    · exact toEmpty_keeps s
    · exact Keeps.refl s

theorem markStep_keeps (p t : Nat) (s : State) (m : MarkIx) : Keeps s (markStep p t s m) := by
  unfold markStep; split
  · exact Keeps.refl s
  · split
    · exact Keeps.refl s
    · split
      · exact crossMark_keeps _ _ _ _ _
      · exact Keeps.refl s

theorem recomputeT_keeps (s : State) : Keeps s (recomputeT s) := by
  unfold recomputeT
  dsimp only
  refine Keeps.trans ?_ (detectApproach_keeps _)
  split
  · exact (setTrk_keeps _ s).trans (foldl_keeps' _ (markStep_keeps _ _) _ _)
  · exact setTrk_keeps _ s
  · exact setTrk_keeps _ s
  · exact setTrk_keeps _ s

theorem standstillTest_keeps (s : State) : Keeps s (standstillTest s) := by
  unfold standstillTest; split
  · dsimp only; split <;> exact changeTrk_keeps _ s
  · exact Keeps.refl s

theorem restTest_keeps (ok : Option (SensorId × Nat)) (s : State) : Keeps s (restTest ok s) := by
  unfold restTest; split
  · split
    · exact setTrk_keeps _ s
    · exact Keeps.refl s
  · split
    · exact motion_keeps s
    · exact Keeps.refl s

theorem awaitTest_keeps (ok : Option (SensorId × Nat)) (s : State) : Keeps s (awaitTest ok s) := by
  unfold awaitTest; split
  · exact motion_keeps s
  · split
    · exact toApproach_keeps _ s
    · exact Keeps.refl s

theorem berthTests_keeps (ok : Option (SensorId × Nat)) (s : State) : Keeps s (berthTests ok s) := by
  unfold berthTests
  split <;> (try split) <;>
    first | exact Keeps.refl s | exact standstillTest_keeps s | exact awaitTest_keeps ok s | exact restTest_keeps ok s | exact motion_keeps s

theorem sampleTaken_keeps (x : SensorId) (v : Sample) (s : State) : Keeps s (sampleTaken x v s) := by
  unfold sampleTaken
  dsimp only
  split <;> exact ((setTrk_keeps _ s).trans (recomputeT_keeps _)).trans (berthTests_keeps _ _)

theorem rangingByte_keeps (x : SensorId) (s : State) (b : Byte) : Keeps s (rangingByte x s b) := by
  unfold rangingByte
  dsimp only
  split
  · exact setTrk_keeps _ s
  · split
    · exact setTrk_keeps _ s
    · exact (setTrk_keeps _ s).trans (sampleTaken_keeps _ _ _)

theorem rangingTaken_keeps (x : SensorId) (bs : List Byte) (s : State) : Keeps s (rangingTaken x bs s) := by
  unfold rangingTaken
  split
  · exact Keeps.refl s
  · exact foldl_keeps' _ (rangingByte_keeps x) _ _

theorem silenceExpired_keeps (x : SensorId) (s : State) : Keeps s (silenceExpired x s) := by
  unfold silenceExpired; split
  · exact Keeps.refl s
  · exact ((setTrk_keeps _ s).trans (recomputeT_keeps _)).trans (berthTests_keeps _ _)

theorem targetLost_keeps (s : State) : Keeps s (targetLost s) := by
  unfold targetLost; split
  · exact Keeps.refl s
  · split
    · exact setTrk_keeps _ s
    · exact toEmpty_keeps s

theorem takeAr_keeps (p : ProfileIx) (t r : Option Nat) (cuts : List Nat) (s : State) : Keeps s (takeAr p t r cuts s) := by
  unfold takeAr
  dsimp only
  split <;> first | exact setTrk_keeps _ s | exact changeTrk_keeps _ s

/-! Door bus. -/

theorem startPoll_keeps (i : DoorIx) (rest : List DoorIx) (s : State) : Keeps s (startPoll i rest s) := by
  unfold startPoll; split
  · exact setBus_keeps _ s
  · exact (putDoor_keeps _ _ _ _).trans (setBus_keeps _ _)

theorem nextPoll_keeps (s : State) : Keeps s (nextPoll s) := by
  unfold nextPoll; split
  · exact setBus_keeps _ s
  · split
    · exact startPoll_keeps _ _ _
    · split
      · exact setBus_keeps _ s
      · exact startPoll_keeps _ _ _

theorem busWake_keeps (s : State) : Keeps s (busWake s) := by
  unfold busWake; split
  · exact Keeps.refl s
  · exact nextPoll_keeps s

theorem commsLoss_keeps (i : DoorIx) (k : MissKind) (s : State) : Keeps s (commsLoss i k s) :=
  ((offer_keeps _ s).trans (offers_keeps _ _)).trans (changeDoor_keeps _ _ _ _)

theorem doorMissed_keeps (i : DoorIx) (k : MissKind) (s : State) : Keeps s (doorMissed i k s) := by
  unfold doorMissed; dsimp only; split
  · exact commsLoss_keeps _ _ _
  · exact setDoor_keeps _ _ _

theorem statusTaken_keeps (i : DoorIx) (st : Status) (d : Door) (s : State) : Keeps s (statusTaken i st d s) :=
  (offerIf_keeps _ _ s).trans (putDoor_keeps _ _ _ _)

theorem stepTaken_keeps (i : DoorIx) (old : Door) (e : Door × List Report) (s : State) : Keeps s (stepTaken i old e s) :=
  ((offers_keeps _ s).trans (changeDoor_keeps _ _ _ _)).trans (egressAtLock_keeps _ _ _)

theorem doorReplied_keeps (i : DoorIx) (st : Status) (s : State) : Keeps s (doorReplied i st s) := by
  have h (e : Door × List Report) : Keeps s (stepTaken i (s.door i) e (statusTaken i st e.1 s)) :=
    (statusTaken_keeps i st e.1 s).trans (stepTaken_keeps i _ e _)
  have k (b : Bool) (u : State) (hu : Keeps s u) : Keeps s (if b = true then handlePath i u else u) := by
    split
    · exact hu.trans (handlePath_keeps _ _)
    · exact hu
  exact k _ _ (h _)

theorem endDiscarded_keeps (how : PollEnd) (s : State) : Keeps s (endDiscarded how s) := by
  unfold endDiscarded; split
  · exact Keeps.refl s
  · exact (setBus_keeps _ s).trans (nextPoll_keeps _)
  · exact (setBus_keeps _ s).trans (nextPoll_keeps _)

theorem endPoll_keeps (how : PollEnd) (s : State) : Keeps s (endPoll how s) := by
  unfold endPoll; split
  · exact Keeps.refl s
  · split
    · exact endDiscarded_keeps how s
    · dsimp only; split
      · exact ((setBus_keeps _ s).trans (doorReplied_keeps _ _ _)).trans (nextPoll_keeps _)
      · exact ((setBus_keeps _ s).trans (doorMissed_keeps _ _ _)).trans (nextPoll_keeps _)

/-! Configuration store. -/

theorem abandonEdit_keeps (src : Source) (s : State) : Keeps s (abandonEdit src s) := by
  unfold abandonEdit; split
  · exact Keeps.refl s
  · dsimp only
    refine Keeps.trans ?_ (profileListChanged_keeps _ _)
    exact Keeps.of_eq rfl rfl rfl rfl

theorem isoChange_keeps (i : DoorIx) (old e : DoorEntry) (s : State) : Keeps s (isoChange i old e s) := by
  unfold isoChange; split
  · exact isolate_keeps _ _
  · split
    · exact unisolate_keeps _ _
    · exact Keeps.refl s

end Sys2Proof.Machine
end

