-- ==== Sys2Proof/Laws/Records.lean ====
section
/-! SUPPORT. What the taking of a record can do: a record at its owning block keeps the queue, the serial memory and every port's lines; a completed line that is taken puts its reply on its link. -/

namespace Sys2Proof.Machine

/-! Outcomes of a record. -/

/-- What a record keeps, whatever it comes to. -/
def Res.Kept (s : State) : Res → Prop
  | .ok t _ => Keeps s t
  | .no _ => True
  | .wait t => Keeps s t

/-- What every record keeps, those that set the port's own mask or watch too. -/
def Res.KeptLines (s : State) : Res → Prop
  | .ok t _ => KeepsLines s t
  | .no _ => True
  | .wait t => KeepsLines s t

theorem Res.Kept.toLines {s : State} {r : Res} (h : r.Kept s) : r.KeptLines s := by
  cases r with
  | ok t fs => exact Keeps.toLines h
  | no why => trivial
  | wait t => exact Keeps.toLines h

theorem refuseIf_kept (b : Bool) (why : Reason) (k : Res) (s : State) (h : k.Kept s) : (refuseIf b why k).Kept s := by
  unfold refuseIf; split
  · trivial
  · exact h

theorem onDoor_kept (j : Int) (s : State) (k : DoorIx → Res) (h : ∀ i, (k i).Kept s) : (onDoor j s k).Kept s := by
  unfold onDoor; split
  · trivial
  · split
    · exact h _
    · trivial

theorem onHead_kept (h : Int) (s : State) (k : HeadIx → Res) (hk : ∀ i, (k i).Kept s) : (onHead h k).Kept s := by
  unfold onHead; split
  · trivial
  · exact hk _

/-! Each record. -/

theorem doRt_kept (j : Int) (s : State) : (doRt j s).Kept s :=
  onDoor_kept _ _ _ fun _ => refuseIf_kept _ _ _ _ (refuseIf_kept _ _ _ _ (returnDoor_keeps _ _ _ _))

theorem doEo_kept (s : State) : (doEo s).Kept s := setLatch_keeps false s

theorem resetOne_keeps (s : State) (i : DoorIx) : Keeps s (resetOne s i) := by
  unfold resetOne; dsimp only; split
  · exact changeDoor_keeps _ _ _ _
  · exact Keeps.refl s

theorem doEr_kept (s : State) : (doEr s).Kept s :=
  refuseIf_kept _ _ _ _ ((((setRel_keeps _ s).trans (reeval_keeps _)).trans (foldl_keeps' _ resetOne_keeps _ _)).trans (offerIf_keeps _ _ _))

theorem doMq_kept (j : Int) (s : State) : (doMq j s).Kept s := by
  refine onDoor_kept _ _ _ fun i => refuseIf_kept _ _ _ _ (refuseIf_kept _ _ _ _ ?_)
  split
  · exact Keeps.refl s
  · split
    · exact putDoor_keeps _ _ _ _
    · exact (setRel_keeps _ s).trans (offerCustody_keeps _ _ _)

theorem doMc_kept (j : Int) (s : State) : (doMc j s).Kept s :=
  onDoor_kept _ _ _ fun _ => refuseIf_kept _ _ _ _ (cancelPending_keeps _ _ _)

theorem doMo_kept (j : Int) (o : Kw MaintOrder) (s : State) : (doMo j o s).Kept s := by
  refine onDoor_kept _ _ _ fun i => ?_
  split
  · trivial
  · exact refuseIf_kept _ _ _ _ (putDoor_keeps _ _ _ _)

theorem startTest_keeps (i : DoorIx) (s : State) : Keeps s (startTest i s) :=
  ((offers_keeps _ _).trans (offerIf_keeps _ _ _)).trans (changeDoor_keeps _ _ _ _)

theorem doTc_kept (j : Int) (s : State) : (doTc j s).Kept s :=
  onDoor_kept _ _ _ fun _ => refuseIf_kept _ _ _ _ (startTest_keeps _ _)

theorem doMr_kept (j : Int) (s : State) : (doMr j s).Kept s :=
  onDoor_kept _ _ _ fun _ => refuseIf_kept _ _ _ _ (returnDoor_keeps _ _ _ _)

theorem doIs_kept (j : Int) (b : Bool) (s : State) : (doIs j b s).Kept s :=
  onDoor_kept _ _ _ fun _ => refuseIf_kept _ _ _ _ (refuseIf_kept _ _ _ _ (refuseIf_kept _ _ _ _ (isolate_keeps _ _)))

theorem doIu_kept (j : Int) (s : State) : (doIu j s).Kept s :=
  onDoor_kept _ _ _ fun _ => refuseIf_kept _ _ _ _ (unisolate_keeps _ _)

theorem doOp_kept (g : Int) (s : State) : (doOp g s).Kept s := by
  unfold doOp; split
  · trivial
  · exact refuseIf_kept _ _ _ _ (refuseIf_kept _ _ _ _ (groupCommand_keeps _ _ _))

theorem doCl_kept (g : Int) (s : State) : (doCl g s).Kept s := by
  unfold doCl; split
  · trivial
  · exact refuseIf_kept _ _ _ _ (refuseIf_kept _ _ _ _ (groupCommand_keeps _ _ _))

theorem doHd_kept (s : State) : (doHd s).Kept s := by
  unfold doHd; split
  · exact Keeps.refl s
  · exact (setHold_keeps _ _).trans (foldl_keeps' _ freezeOne_keeps _ _)

theorem doRm_kept (s : State) : (doRm s).Kept s :=
  refuseIf_kept _ _ _ _ ((setHold_keeps _ _).trans (foldl_keeps' _ thawOne_keeps _ _))

theorem doDr_kept (j : Int) (s : State) : (doDr j s).Kept s :=
  onDoor_kept _ _ _ fun _ => refuseIf_kept _ _ _ _ ((changeDoor_keeps _ _ _ _).trans (offer_keeps _ _))

theorem doDs_kept (l : Link) (j : Int) (s : State) : (doDs l j s).Kept s := onDoor_kept _ _ _ fun _ => setDoor_keeps _ _ _

theorem doRo_kept (h f : Int) (s : State) : (doRo h f s).Kept s := by
  refine onHead_kept _ _ _ fun i => ?_
  split
  · trivial
  · exact refuseIf_kept _ _ _ _ ((putHead_keeps _ _ _).trans (refreshZones_keeps _))

theorem doHw_kept (h : Int) (s : State) : (doHw h s).Kept s :=
  onHead_kept _ _ _ fun _ => refuseIf_kept _ _ _ _ ((putHead_keeps _ _ _).trans (refreshZones_keeps _))

theorem doHj_kept (h : Int) (s : State) : (doHj h s).Kept s :=
  onHead_kept _ _ _ fun _ => refuseIf_kept _ _ _ _ ((putHead_keeps _ _ _).trans (refreshZones_keeps _))

theorem doPt_kept (h : Int) (bs : List Byte) (s : State) : (doPt h bs s).Kept s :=
  onHead_kept _ _ _ fun _ => refuseIf_kept _ _ _ _ (refuseIf_kept _ _ _ _ (setScan_keeps _ _))

theorem doHs_kept (h : Int) (s : State) : (doHs h s).Kept s := onHead_kept _ _ _ fun _ => Keeps.refl s

theorem doZs_kept (z : Int) (s : State) : (doZs z s).Kept s := by
  unfold doZs; split
  · trivial
  · split
    · trivial
    · exact Keeps.refl s

theorem doZc_kept (z : Int) (head first count : Option Int) (kind : Option (Kw ZoneKind)) (d1 d2 thr on off : Option Int)
    (en : Option (Kw Bool)) (s : State) : (doZc z head first count kind d1 d2 thr on off en s).Kept s := by
  unfold doZc; split
  · trivial
  · refine refuseIf_kept _ _ _ _ ?_
    split
    · trivial
    · exact refuseIf_kept _ _ _ _ ((dropZone_keeps _ _).trans (putZone_keeps _ _ _))

theorem doZx_kept (z : Int) (s : State) : (doZx z s).Kept s := by
  unfold doZx; split
  · trivial
  · exact refuseIf_kept _ _ _ _ (refuseIf_kept _ _ _ _ ((dropZone_keeps _ _).trans (offer_keeps _ _)))

theorem doAr_kept (p : Int) (t r : Option Int) (cuts : List Int) (s : State) : (doAr p t r cuts s).Kept s := by
  unfold doAr; split
  · exact refuseIf_kept _ _ _ _ (refuseIf_kept _ _ _ _ (refuseIf_kept _ _ _ _ (takeAr_keeps _ _ _ _ _)))
  · trivial

theorem doSp_kept (r : Int) (s : State) : (doSp r s).Kept s := by
  unfold doSp; split
  · trivial
  · split <;> first | exact changeTrk_keeps _ s | trivial | skip
    split
    · trivial
    · exact refuseIf_kept _ _ _ _ (changeTrk_keeps _ s)

theorem doDp_kept (s : State) : (doDp s).Kept s := refuseIf_kept _ _ _ _ (motion_keeps s)
theorem doAc_kept (s : State) : (doAc s).Kept s := refuseIf_kept _ _ _ _ (changeTrk_keeps _ s)
theorem doRj_kept (s : State) : (doRj s).Kept s := refuseIf_kept _ _ _ _ (changeTrk_keeps _ s)

theorem doBc_kept (s : State) : (doBc s).Kept s := by
  refine refuseIf_kept _ _ _ _ ?_
  have h : ∀ b : Bool, Keeps s (if b = true then approachEntry (toEmpty s) else toEmpty s) := by
    intro b; split
    · exact (toEmpty_keeps s).trans (approachEntry_keeps _)
    · exact toEmpty_keeps s
  exact h _

theorem setPort_kept (l : Link) (p : Port) (s : State) (fs : List String) (h : PortKept (s.port l) p) : (Res.ok (s.setPort l p) fs).Kept s :=
  setPort_keeps l p s h

theorem doBm_kept (l : Link) (pos : Option Int) (s : State) : (doBm l pos s).Kept s := by
  unfold doBm; split
  · trivial
  · exact setPort_keeps _ _ _ (PortKept.of ..)

theorem doUl_kept (l : Link) (pos : Option Int) (s : State) : (doUl l pos s).Kept s := by
  unfold doUl; split
  · trivial
  · exact setPort_keeps _ _ _ (PortKept.of ..)

theorem doMk_kept (m : Int) (x : Option Int) (d : Kw MarkDir) (a : Kw MarkAction) (s : State) : (doMk m x d a s).Kept s := by
  unfold doMk; split
  · trivial
  · refine refuseIf_kept _ _ _ _ ?_
    split
    · exact setMark_keeps _ _ _
    · trivial

theorem doMx_kept (m : Int) (s : State) : (doMx m s).Kept s := by
  unfold doMx; split
  · trivial
  · exact refuseIf_kept _ _ _ _ (refuseIf_kept _ _ _ _ (setMark_keeps _ _ _))

theorem doDc_kept (j : Int) (near far group : Option Int) (egress : Option (Kw Bool)) (retry force blank window : Option Int)
    (iso : Option (Kw Bool)) (s : State) : (doDc j near far group egress retry force blank window iso s).Kept s := by
  unfold doDc; split
  · trivial
  · refine refuseIf_kept _ _ _ _ ?_
    split
    · trivial
    · refine refuseIf_kept _ _ _ _ ?_
      split
      · exact (((setDoor_keeps _ _ s).trans (offer_keeps _ _)).trans (reeval_keeps _)).trans (busWake_keeps _)
      · exact refuseIf_kept _ _ _ _ ((putDoor_keeps _ _ _ _).trans (isoChange_keeps _ _ _ _))

theorem doDx_kept (j : Int) (s : State) : (doDx j s).Kept s := by
  unfold doDx; split
  · trivial
  · exact refuseIf_kept _ _ _ _ (refuseIf_kept _ _ _ _ (refuseIf_kept _ _ _ _ (refuseIf_kept _ _ _ _
      ((((((cancelPending_keeps _ _ _).trans (setDoor_keeps _ _ _)).trans (offerIf_keeps _ _ _)).trans (setBus_keeps _ _)).trans
        (offer_keeps _ _)).trans (reeval_keeps _)))))

theorem setCfg_keeps (s : State) (c : Store) : Keeps s { s with cfg := c } := Keeps.of_eq rfl rfl rfl rfl

theorem doPb_kept (src : Source) (p : Int) (len stop tstop tpartial omin dagree : Option Int) (rep : Option (Kw Bool))
    (gap : Option Int) (s : State) : (doPb src p len stop tstop tpartial omin dagree rep gap s).Kept s := by
  unfold doPb; split
  · trivial
  · refine refuseIf_kept _ _ _ _ (refuseIf_kept _ _ _ _ ?_)
    split
    · trivial
    · exact (((abandonEdit_keeps src s).trans (setProfile_keeps _ _ _)).trans (setCfg_keeps _ _)).trans (profileListChanged_keeps _ _)

theorem doPd_kept (src : Source) (tn tf : Option Int) (s : State) : (doPd src tn tf s).Kept s := by
  unfold doPd; split
  · trivial
  · split
    · exact refuseIf_kept _ _ _ _ ((setProfile_keeps _ _ s).trans (profileListChanged_keeps _ _))
    · trivial

theorem doPe_kept (src : Source) (s : State) : (doPe src s).Kept s := by
  unfold doPe; split
  · trivial
  · dsimp only; split
    · trivial
    · split <;> exact Keeps.of_eq rfl rfl rfl rfl

theorem doPx_kept (src : Source) (p : Int) (s : State) : (doPx src p s).Kept s := by
  unfold doPx; split
  · trivial
  · exact refuseIf_kept _ _ _ _ (refuseIf_kept _ _ _ _
      (((setProfile_keeps _ _ s).trans (setCfg_keeps _ _)).trans (profileListChanged_keeps _ _)))

theorem doPr_kept (l : Link) (p : Int) (pos : Option Int) (s : State) : (doPr l p pos s).Kept s := by
  unfold doPr; split
  · trivial
  · dsimp only; split
    · exact Keeps.refl s
    · split
      · trivial
      · exact setPort_keeps _ _ _ (PortKept.of ..)

theorem doTs_kept (n : Kw Setting) (v : Option Int) (s : State) : (doTs n v s).Kept s := by
  unfold doTs; split
  · trivial
  · exact setCfg_keeps s _

theorem doSv_kept (n : Kw Setting) (s : State) : (doSv n s).Kept s := by
  unfold doSv; split
  · trivial
  · exact Keeps.refl s

theorem doEs_kept (l : Link) (k : Option (Kw EsList)) (pos : Option Int) (s : State) : (doEs l k pos s).Kept s := by
  unfold doEs
  split
  · exact Keeps.refl s
  · trivial
  · split
    · trivial
    · exact setPort_keeps _ _ _ (PortKept.of ..)
  · split
    · trivial
    · exact setPort_keeps _ _ _ (PortKept.of ..)

theorem doLm_kept (l : Link) (a b c d : Option (Kw Bool)) (s : State) : (doLm l a b c d s).KeptLines s := by
  unfold doLm; dsimp only; split
  · exact setPort_keepsLines _ _ _ ⟨rfl, rfl, rfl, rfl⟩
  · trivial

theorem doWa_kept (l : Link) (o : Kw WatchArg) (s : State) : (doWa l o s).KeptLines s := by
  unfold doWa; split
  · trivial
  · split
    · trivial
    · exact setPort_keepsLines _ _ _ ⟨rfl, rfl, rfl, rfl⟩
    · exact (setPort_keepsLines l { s.port l with watch := some _ } s ⟨rfl, rfl, rfl, rfl⟩).trans (offerTo_keeps _ _ _).toLines

theorem doLc_kept (l : Link) (s : State) : (doLc l s).KeptLines s := by
  have h (p : Port) (hp : Lines (s.port l) p) (b : Bool) :
      KeepsLines s (if b = true then cancelAll "LC" (abandonEdit (.link l) (s.setPort l p)) else abandonEdit (.link l) (s.setPort l p)) := by
    have k := (setPort_keepsLines l p s hp).trans (abandonEdit_keeps (.link l) _).toLines
    split
    · exact k.trans (cancelAll_keeps _ _).toLines
    · exact k
  exact h { s.port l with
    queue := [], loss := false, watch := none, mapCur := ⟨0, false⟩, ulCur := ⟨0, false⟩, listCur := ⟨.none, 0, false⟩,
    buf := [], lineTimer := none, discarding := false } ⟨rfl, rfl, rfl, rfl⟩ _

theorem doRu_kept (s : State) : (doRu s).Kept s :=
  refuseIf_kept _ _ _ _ (refuseIf_kept _ _ _ _ (refuseIf_kept _ _ _ _
    (((Keeps.of_eq rfl rfl rfl rfl : Keeps s { s with start := { s.start with phase := .running } }).trans (offer_keeps _ _)).trans (reeval_keeps _))))

/-- Every record at its owning block. -/
theorem ownBlock_kept (src : Source) (i : Instr) (s : State) : (ownBlock src i s).KeptLines s := by
  cases i with
  | dc => exact (doDc_kept ..).toLines
  | dx => exact (doDx_kept ..).toLines
  | pb => exact (doPb_kept ..).toLines
  | pd => exact (doPd_kept ..).toLines
  | pe => exact (doPe_kept ..).toLines
  | px => exact (doPx_kept ..).toLines
  | pr => exact (doPr_kept ..).toLines
  | ts => exact (doTs_kept ..).toLines
  | sv => exact (doSv_kept ..).toLines
  | mk => exact (doMk_kept ..).toLines
  | mx => exact (doMx_kept ..).toLines
  | ar => exact (doAr_kept ..).toLines
  | sp => exact (doSp_kept ..).toLines
  | dp => exact (doDp_kept ..).toLines
  | ac => exact (doAc_kept ..).toLines
  | rj => exact (doRj_kept ..).toLines
  | bc => exact (doBc_kept ..).toLines
  | bm => exact (doBm_kept ..).toLines
  | ul => exact (doUl_kept ..).toLines
  | ds => exact (doDs_kept ..).toLines
  | op => exact (doOp_kept ..).toLines
  | cl => exact (doCl_kept ..).toLines
  | hd => exact (doHd_kept ..).toLines
  | rm => exact (doRm_kept ..).toLines
  | dr => exact (doDr_kept ..).toLines
  | ro => exact (doRo_kept ..).toLines
  | zc => exact (doZc_kept ..).toLines
  | zx => exact (doZx_kept ..).toLines
  | hw => exact (doHw_kept ..).toLines
  | hj => exact (doHj_kept ..).toLines
  | pt => exact (doPt_kept ..).toLines
  | hs => exact (doHs_kept ..).toLines
  | zs => exact (doZs_kept ..).toLines
  | rt => exact (doRt_kept ..).toLines
  | eo => exact (doEo_kept ..).toLines
  | er => exact (doEr_kept ..).toLines
  | mq => exact (doMq_kept ..).toLines
  | mc => exact (doMc_kept ..).toLines
  | mo => exact (doMo_kept ..).toLines
  | tc => exact (doTc_kept ..).toLines
  | mr => exact (doMr_kept ..).toLines
  | isol => exact (doIs_kept ..).toLines
  | iu => exact (doIu_kept ..).toLines
  | es => exact (doEs_kept ..).toLines
  | lm => exact doLm_kept ..
  | wa => exact doWa_kept ..
  | lc => exact doLc_kept ..
  | ru => exact (doRu_kept ..).toLines
  | _ => exact (Keeps.refl s).toLines

theorem runRecord_kept (src : Source) (i : Instr) (s : State) : (runRecord src i s).KeptLines s := by
  have h := ownBlock_kept src i s
  unfold runRecord
  split
  · rename_i e; rw [e] at h; exact KeepsLines.trans h (watchEntry_keeps _ _)
  · trivial
  · rename_i e; rw [e] at h; exact h

end Sys2Proof.Machine
end

