-- ==== Sys2Proof/Laws/Deliver.lean ====
section
/-! SUPPORT. A record on an idle link: the state in which it reaches its owning block, and where its reply goes. -/

namespace Sys2Proof.Machine

/-- An index given as the manual numbers it is the index. -/
@[simp] theorem ix?_succ (n : Nat) (i : Fin n) : ix? n ((i.val + 1 : Nat) : Int) = some i := by
  unfold ix?
  have h : (1 : Int) ≤ ((i.val + 1 : Nat) : Int) ∧ ((i.val + 1 : Nat) : Int) ≤ n := by omega
  rw [dif_pos h]
  simp

@[simp] theorem ix?_succ' (n : Nat) (i : Fin n) : ix? n ((i.val : Int) + 1) = some i := ix?_succ n i

/-- The state in which a record of an idle link reaches its owning block. -/
def heard (l : Link) (i : Instr) (s : State) : State :=
  let s := presetPermit i (s.setPort l { s.port l with replies := (s.port l).replies ++ [none] })
  if l == .train then superviseRecord s else s

/-- The permit input as the record finds it. -/
theorem deliver_of_record {l : Link} {v : Verb} {i : Instr} {s : State} (ha : s.alive = true) (hi : (s.port l).idle)
    (hf : formReason i = none) (hv : verbOf i = some v) (hg : gate (.link l) v (heard l i s) = none) :
    deliver l v i s = .next (finish s (reeval (answer l v (heard l i s) (runRecord (.link l) i (heard l i s))))) := by
  unfold deliver event
  rw [if_pos ha]
  have h1 : lineOf v i = .record i := by unfold lineOf; rw [hf]
  have h2 : completeLine l (lineOf v i) s = answer l v (heard l i s) (runRecord (.link l) i (heard l i s)) := by
    unfold completeLine
    dsimp only
    rw [if_neg (by rw [hi.2.2.1]; decide), h1]
    unfold takeLine
    dsimp only
    rw [hv]
    change takeRecord l v i _ = _
    unfold takeRecord
    change (match gate (.link l) v (heard l i s) with | some why => _ | none => _) = _
    rw [hg]
    rfl
  rw [h2]

theorem superviseRecord_keepsGate (src : Source) (v : Verb) (s : State) : gate src v (superviseRecord s) = gate src v s := by
  have he : (superviseRecord s).auth.effective = s.auth.effective := by
    unfold superviseRecord
    change (s.auth.spoken s.settings.supv).effective = _
    unfold Auth.spoken
    cases s.auth.stage <;> dsimp only
    · split <;> rfl
    · rfl
    · rfl
  unfold gate
  rw [he]
  rfl

/-- The checks on the way to the owning block read the state before the record, ER's permit level apart. -/
theorem gate_heard (l : Link) (v : Verb) (i : Instr) (s : State) (hp : ∀ k b, i ≠ .er k (some b)) :
    gate (.link l) v (heard l i s) = gate (.link l) v s := by
  have h0 : ∀ t, presetPermit i t = t := by
    intro t; unfold presetPermit; split
    · exact absurd rfl (hp _ _)
    · rfl
  unfold heard
  dsimp only
  rw [h0]
  have hs : gate (.link l) v (s.setPort l { s.port l with replies := (s.port l).replies ++ [none] }) = gate (.link l) v s := by
    cases l <;> rfl
  split
  · rw [superviseRecord_keepsGate, hs]
  · exact hs

theorem presetPermit_port (i : Instr) (s : State) (k : Link) : (presetPermit i s).port k = s.port k := by
  unfold presetPermit; split <;> rfl

theorem heard_lines (l : Link) (i : Instr) (s : State) :
    Lines { s.port l with replies := (s.port l).replies ++ [none] } ((heard l i s).port l) := by
  have h : Lines { s.port l with replies := (s.port l).replies ++ [none] }
      ((presetPermit i (s.setPort l { s.port l with replies := (s.port l).replies ++ [none] })).port l) := by
    rw [presetPermit_port, setPort_port_same]; exact Lines.refl _
  unfold heard; dsimp only; split
  · exact h.trans (((superviseRecord_keeps _).ports l).toLines)
  · exact h

/-- Where no line is being sent and a formed reply is first, that reply is sent next (R179). -/
theorem startLine_reply (p : Port) (r : Reply) (rest : List (Option Reply)) (hs : p.sending = none) (hr : p.replies = some r :: rest) :
    p.startLine = { p with sending := some (.reply r), replies := rest } := by
  unfold Port.startLine; rw [hs, hr]

theorem watchPort_kept (l : Link) (s0 s : State) (p : Port) : PortKept p (watchPort l s0 s p) := by
  unfold watchPort; split
  · exact PortKept.refl p
  · exact PortKept.refl p
  · split
    · exact accept_kept _ p
    · exact PortKept.refl p

theorem finish_port (s0 s : State) (l : Link) : (finish s0 s).port l = portEnd l s0 s := by cases l <;> rfl

/-- At the end of an event the formed reply that is first on a link with nothing being sent is being sent. -/
theorem finish_replies (s0 s : State) (l : Link) (r : Reply) (hs : (s.port l).sending = none) (hr : (s.port l).replies = [some r]) :
    (finish s0 s).replies l r := by
  have hw := watchPort_kept l s0 s (s.port l)
  have h1 : (watchPort l s0 s (s.port l)).sending = none := hw.sending.trans hs
  have h2 : (watchPort l s0 s (s.port l)).replies = [some r] := hw.replies.trans hr
  unfold State.replies
  rw [finish_port]
  unfold portEnd
  rw [startLine_reply _ r [] h1 h2]
  exact ⟨rfl, rfl⟩

/-- A record that its owning block takes: the state it ends in, and its reply on its link. -/
theorem deliver_ok {l : Link} {v : Verb} {i : Instr} {s t : State} {fs : List String} (ha : s.alive = true) (hi : (s.port l).idle)
    (hf : formReason i = none) (hv : verbOf i = some v) (hg : gate (.link l) v (heard l i s) = none)
    (ho : ownBlock (.link l) i (heard l i s) = .ok t fs) :
    deliver l v i s = .next (finish s (reeval (answerOn l (.ok v fs) (watchEntry i t)))) ∧
    (finish s (reeval (answerOn l (.ok v fs) (watchEntry i t)))).replies l (.ok v fs) := by
  have hrun : runRecord (.link l) i (heard l i s) = .ok (watchEntry i t) fs := by unfold runRecord; rw [ho]
  have hk : KeepsLines (heard l i s) (watchEntry i t) := by
    have h := runRecord_kept (.link l) i (heard l i s); rw [hrun] at h; exact h
  refine ⟨by rw [deliver_of_record ha hi hf hv hg, hrun]; rfl, finish_replies _ _ _ _ ?_ ?_⟩
  · have h1 := ((heard_lines l i s).trans (hk.lines l)).sending
    have h2 := ((reeval_keeps (answerOn l (.ok v fs) (watchEntry i t))).ports l).sending
    rw [h2]
    unfold answerOn
    rw [setPort_port_same]
    exact h1.trans hi.1
  · have h1 := ((heard_lines l i s).trans (hk.lines l)).replies
    have h2 := ((reeval_keeps (answerOn l (.ok v fs) (watchEntry i t))).ports l).replies
    rw [h2]
    unfold answerOn
    rw [setPort_port_same]
    change fillFirst _ ((watchEntry i t).port l).replies = _
    rw [h1]
    change fillFirst _ ((s.port l).replies ++ [none]) = _
    rw [hi.2.1]
    rfl

/-- A record that its owning block refuses: nothing changes but the reply that is sent (R175), supervision apart. -/
theorem deliver_no {l : Link} {v : Verb} {i : Instr} {s : State} {why : Reason} (ha : s.alive = true) (hi : (s.port l).idle)
    (hf : formReason i = none) (hv : verbOf i = some v) (hg : gate (.link l) v (heard l i s) = none)
    (ho : ownBlock (.link l) i (heard l i s) = .no why) :
    deliver l v i s = .next (finish s (reeval (answerOn l (.no v.text why) (heard l i s)))) := by
  have hrun : runRecord (.link l) i (heard l i s) = .no why := by unfold runRecord; rw [ho]
  rw [deliver_of_record ha hi hf hv hg, hrun]; rfl

end Sys2Proof.Machine
end

