-- ==== Sys2Proof/Laws/Memory.lean ====
section
/-! SUPPORT. The serial memory: laying bytes into it keeps the canonical form, and a byte reads as it was laid. -/

namespace Sys2Proof.Machine

/-- The canonical form does not ask for the lowest address allowed. -/
theorem memWfFrom_mono {lo lo' : Nat} (h : lo' ≤ lo) : ∀ {m : List Host.Cell}, memWfFrom lo m = true → memWfFrom lo' m = true
  | [], _ => rfl
  | (b, v) :: rest, hm => by
    simp only [memWfFrom, Bool.and_eq_true, decide_eq_true_eq] at hm ⊢
    exact ⟨⟨⟨Nat.le_trans h hm.1.1.1, hm.1.1.2⟩, hm.1.2⟩, hm.2⟩

/-- A byte laid at an address of the memory keeps the canonical form. -/
theorem memWrite_wfFrom {a : Nat} {v : Byte} (ha : a < Config.scriptSize) :
    ∀ {lo : Nat} {m : List Host.Cell}, lo ≤ a → memWfFrom lo m = true → memWfFrom lo (memWrite a v m) = true
  | lo, [], hl, _ => by
    unfold memWrite
    split
    · rfl
    · rename_i hv
      simp only [memWfFrom, Bool.and_eq_true, decide_eq_true_eq]
      exact ⟨⟨⟨hl, ha⟩, by simpa [bne] using hv⟩, trivial⟩
  | lo, (b, w) :: rest, hl, hm => by
    have hb := hm
    simp only [memWfFrom, Bool.and_eq_true, decide_eq_true_eq] at hb
    unfold memWrite
    split
    · rename_i hab
      split
      · exact hm
      · rename_i hv
        simp only [memWfFrom, Bool.and_eq_true, decide_eq_true_eq]
        exact ⟨⟨⟨hl, ha⟩, by simpa [bne] using hv⟩, ⟨⟨⟨hab, hb.1.1.2⟩, hb.1.2⟩, hb.2⟩⟩
    · split
      · rename_i _ hab
        have hab : a = b := by simpa using hab
        split
        · exact memWfFrom_mono (by omega) hb.2
        · rename_i hv
          simp only [memWfFrom, Bool.and_eq_true, decide_eq_true_eq]
          exact ⟨⟨⟨hl, ha⟩, by simpa [bne] using hv⟩, hab ▸ hb.2⟩
      · rename_i h1 h2
        have h2 : a ≠ b := by simpa using h2
        simp only [memWfFrom, Bool.and_eq_true, decide_eq_true_eq]
        exact ⟨hb.1, memWrite_wfFrom ha (by omega) hb.2⟩

/-- The one operation on the memory keeps its canonical form. -/
theorem memWrite_wf {a : Nat} {v : Byte} {m : List Host.Cell} (ha : a < Config.scriptSize) (h : memWf m = true) :
    memWf (memWrite a v m) = true := memWrite_wfFrom ha (Nat.zero_le a) h

/-- A run of bytes that ends within the memory keeps it too. -/
theorem memLoad_wf : ∀ {vs : List Byte} {a : Nat} {m : List Host.Cell}, a + vs.length ≤ Config.scriptSize → memWf m = true →
    memWf (memLoad a vs m) = true
  | [], _, _, _, h => h
  | v :: vs, a, m, ha, h => by
    rw [List.length_cons] at ha
    exact memLoad_wf (vs := vs) (by omega) (memWrite_wf (by omega) h)

/-- Below the lowest address listed every byte reads FF. -/
theorem memRead_below {a : Nat} : ∀ {lo : Nat} {m : List Host.Cell}, memWfFrom lo m = true → a < lo → memRead m a = 0xFF#8
  | _, [], _, _ => rfl
  | lo, (b, w) :: rest, h, hl => by
    simp only [memWfFrom, Bool.and_eq_true, decide_eq_true_eq] at h
    unfold memRead
    rw [if_neg (by simp; omega)]
    exact memRead_below h.2 (by omega)

/-- A byte reads as it was laid, and every other byte as before. -/
theorem memRead_memWrite {a c : Nat} {v : Byte} : ∀ {lo : Nat} {m : List Host.Cell}, memWfFrom lo m = true →
    memRead (memWrite a v m) c = if c = a then v else memRead m c
  | _, [], _ => by
    unfold memWrite
    by_cases hv : v = 0xFF#8
    · rw [if_pos (by simp [hv]), hv]
      unfold memRead
      split <;> rfl
    · rw [if_neg (by simpa using hv)]
      by_cases hc : c = a
      · rw [if_pos hc]; unfold memRead; rw [if_pos (by simp [hc])]
      · rw [if_neg hc]; unfold memRead; rw [if_neg (by simp; omega)]; rfl
  | lo, (b, w) :: rest, h => by
    have hb := h
    simp only [memWfFrom, Bool.and_eq_true, decide_eq_true_eq] at hb
    have hlow : ∀ x, x ≤ b → memRead rest x = 0xFF#8 := fun x hx => memRead_below hb.2 (by omega)
    unfold memWrite
    by_cases h1 : a < b
    · rw [if_pos h1]
      by_cases hv : v = 0xFF#8
      · rw [if_pos (by simp [hv])]
        by_cases hc : c = a
        · rw [if_pos hc, hv]
          unfold memRead
          rw [if_neg (by simp; omega)]
          exact hlow c (by omega)
        · rw [if_neg hc]
      · rw [if_neg (by simpa using hv)]
        by_cases hc : c = a
        · rw [if_pos hc]; unfold memRead; rw [if_pos (by simp [hc])]
        · rw [if_neg hc]; conv => lhs; unfold memRead
          rw [if_neg (by simp; omega)]
    · rw [if_neg h1]
      by_cases h2 : a = b
      · rw [if_pos (by simp [h2])]
        by_cases hv : v = 0xFF#8
        · rw [if_pos (by simp [hv])]
          by_cases hc : c = a
          · rw [if_pos hc, hv]; exact hlow c (by omega)
          · rw [if_neg hc]; conv => rhs; unfold memRead
            rw [if_neg (by simp; omega)]
        · rw [if_neg (by simpa using hv)]
          by_cases hc : c = a
          · rw [if_pos hc]; unfold memRead; rw [if_pos (by simp [hc])]
          · rw [if_neg hc]; unfold memRead
            rw [if_neg (by simp; omega), if_neg (by simp; omega)]
      · rw [if_neg (by simpa using h2)]
        have hr : ∀ m, memRead ((b, w) :: m) c = if b = c then w else memRead m c := by
          intro m; conv => lhs; unfold memRead
          by_cases hc : b = c <;> simp [hc]
        rw [hr, hr]
        by_cases hc : b = c
        · rw [if_pos hc, if_pos hc, if_neg (by omega)]
        · rw [if_neg hc, if_neg hc]
          exact memRead_memWrite hb.2

end Sys2Proof.Machine
end

