-- ==== Sys2Proof/Laws/Reports.lean ====
section
/-! SUPPORT. What the report queue of a port does with a report that it has taken: it stays in the queue, or the queue is full and the loss flag is set, until it is the line being sent or a later report of its kind and object stands in its place (R178, R179). -/

namespace Sys2Proof.Machine

/-- A report waits in a port's queue, or a full queue has lost a report. -/
def Port.holds (p : Port) (r : Report) : Prop := r ∈ p.queue ∨ (Config.queueLimit ≤ p.queue.length ∧ p.loss = true)

/-- A report taken out of a list is one of it, and the rest is one shorter. -/
theorem takeFirst_length {α : Type} (f : α → Bool) (l : List α) (x : α) (rest : List α) (h : takeFirst f l = some (x, rest)) :
    l.length = rest.length + 1 := by
  induction l generalizing rest with
  | nil => cases h
  | cons y ys ih =>
    simp only [takeFirst] at h
    split at h
    · cases h; rfl
    · cases e : takeFirst f ys with
      | none => rw [e] at h; cases h
      | some w =>
        rw [e] at h
        cases h
        simp only [List.length_cons, ih w.2 e]

theorem takeFirst_mem {α : Type} (f : α → Bool) (l : List α) (x : α) (rest : List α) (h : takeFirst f l = some (x, rest)) (y : α)
    (hy : y ∈ l) : y = x ∨ y ∈ rest := by
  induction l generalizing rest with
  | nil => cases h
  | cons z zs ih =>
    simp only [takeFirst] at h
    split at h
    · cases h; exact List.mem_cons.mp hy
    · cases e : takeFirst f zs with
      | none => rw [e] at h; cases h
      | some w =>
        rw [e] at h
        cases h
        rcases List.mem_cons.mp hy with h1 | h1
        · exact Or.inr (List.mem_cons.mpr (Or.inl h1))
        · exact (ih w.2 e h1).imp id fun k => List.mem_cons.mpr (Or.inr k)

/-- A report that the mask admits is held. -/
theorem accept_holds (r : Report) (p : Port) (hm : p.mask.admits r.kind.cls = true) : (p.accept r).holds r := by
  unfold Port.accept Port.holds
  simp only [hm, Bool.not_true, Bool.false_eq_true, if_false]
  split
  · rename_i h
    obtain ⟨e, he, hs⟩ := List.any_eq_true.mp (Bool.and_eq_true_iff.mp h).2
    exact Or.inl (List.mem_map.mpr ⟨e, he, by rw [hs]; rfl⟩)
  · split
    · exact Or.inl (List.mem_append.mpr (Or.inr (List.mem_singleton.mpr rfl)))
    · rename_i hfull
      split
      · exact Or.inr ⟨Nat.le_of_not_lt hfull, rfl⟩
      · split
        · exact Or.inr ⟨Nat.le_of_not_lt hfull, rfl⟩
        · exact Or.inl (List.mem_append.mpr (Or.inr (List.mem_singleton.mpr rfl)))

/-- What is held stays held, whatever else is taken, but for a later report of the same kind and object. -/
theorem accept_still_holds (r x : Report) (p : Port) (h : p.holds r) (hs : x.kind.isState = true → Report.same x r = true → x = r) :
    (p.accept x).holds r := by
  unfold Port.accept
  split
  · exact h
  · split
    · rename_i hc
      rcases h with h | h
      · refine Or.inl (List.mem_map.mpr ⟨r, h, ?_⟩)
        split
        · rename_i hsame; exact hs (Bool.and_eq_true_iff.mp hc).1 hsame
        · rfl
      · exact Or.inr ⟨by simp only [List.length_map]; exact h.1, h.2⟩
    · split
      · rcases h with h | h
        · exact Or.inl (List.mem_append.mpr (Or.inl h))
        · rename_i hlt; exact absurd h.1 (Nat.not_le_of_lt hlt)
      · rename_i hfull
        split
        · exact h.imp id fun k => ⟨k.1, rfl⟩
        · split
          · exact h.imp id fun k => ⟨k.1, rfl⟩
          · rename_i y rest e
            refine Or.inr ⟨?_, rfl⟩
            have := takeFirst_length _ _ _ _ e
            simp only [List.length_append, List.length_singleton]
            omega

/-- What is held as an event ends is waiting, or being sent, or the loss shows. -/
theorem startLine_tells (r : Report) (p : Port) (h : p.holds r) :
    (r ∈ p.startLine.queue ∨ p.startLine.sending = some (.report r)) ∨ p.startLine.lossy := by
  unfold Port.startLine Port.lossy
  split
  · exact h.elim (fun k => Or.inl (Or.inl k)) fun k => Or.inr ⟨k.1, Or.inl k.2⟩
  · split
    · exact h.elim (fun k => Or.inl (Or.inl k)) fun k => Or.inr ⟨k.1, Or.inl k.2⟩
    · split
      · exact h.elim (fun k => Or.inl (Or.inl k)) fun k => Or.inr ⟨k.1, Or.inr rfl⟩
      · rename_i hl
        rcases h with h | h
        · split
          · exact Or.inl (Or.inl h)
          · rename_i y rest e
            rcases takeFirst_mem _ _ _ _ e r h with k | k
            · exact Or.inl (Or.inr (by rw [k]))
            · exact Or.inl (Or.inl k)
        · exact absurd h.2 hl

end Sys2Proof.Machine
end

