-- ==== Sys2Proof/Tests/Slice0.lean ====
section
/-! SUPPORT. Our own tests: what WellFormed refuses, the worked values of the manual, and for every statement with hypotheses a state and operands that meet them. -/

namespace Sys2Proof.Tests
open Sys2Proof.Machine

set_option maxRecDepth 20000
set_option Elab.async false

/-! What WellFormed refuses, and a neighbour that it takes. -/

theorem test_wf_decimal : Instr.wf (.dx .station 10000000000) = false ∧ Instr.wf (.dx .station (-9999999999)) = true := by decide
theorem test_wf_optional : Instr.wf (.pr .train 1 (some 10000000000)) = false ∧ Instr.wf (.pr .train 1 none) = true := by decide
theorem test_wf_cuts : Instr.wf (.ar .train 1 none none [10000000000]) = false ∧ Instr.wf (.ar .train 1 none none [99]) = true := by decide
theorem test_wf_watch : Instr.wf (.wa .panel (.is (.zone 10000000000))) = false ∧ Instr.wf (.wa .panel (.is (.zone 49))) = true := by decide
theorem test_wf_es : Instr.wf (.es .train none (some 1)) = false ∧ Instr.wf (.es .train (some (.is .doors)) (some 1)) = true := by decide
theorem test_wf_sample : Instr.wf (.rangingSample .a (List.replicate 7 0#8)) = false ∧
    Instr.wf (.rangingSample .a (okSampleBytes 1)) = true := by decide
theorem test_wf_status : Instr.wf (.doorGoodReply [0#8]) = false ∧ Instr.wf (.doorMiss (.frame [])) = false ∧
    Instr.wf (.doorMiss .missing) = true := by decide
theorem test_wf_door_timer : Instr.wf (.warningExpiry 0) = false ∧ Instr.wf (.testLockExpiry 33) = false ∧
    Instr.wf (.pauseExpiry 32) = true := by decide
theorem test_wf_head : Instr.wf (.frameAgeExpiry 13) = false ∧ Instr.wf (.frameAgeExpiry 12) = true := by decide
theorem test_wf_head_reply : Instr.wf (.headGoodReply []) = false ∧ Instr.wf (.headGoodReply (frameReply 0 .ok 0#64)) = true := by decide
theorem test_wf_pt_reply : Instr.wf (.ptReply (List.replicate 21 0#8)) = false ∧ Instr.wf (.ptReply (maintReply 0 [1#8])) = true := by decide

/-! Small states. -/

/-- A part in service with a door 1, a berth record, a key position and a platform hold. -/
def part (d : Door) (b : Berth) (key : Mode := .auto) (hold : Bool := false) : State :=
  let s : State :=
   { State.reset with
     start := { StartUp.reset with phase := .running }
     doors := State.reset.doors.set 0 d
     trk := { Tracker.reset with berth := b }
     auth := { Auth.reset with key := key, hold := hold } }
  { s with sec := s.evalSecure }

/-- The entry of the doors of the tests: retry limit 3, blanking 3. -/
def entry1 : DoorEntry := { near := 21000, far := 22400, group := 1, egress := true, retry := 3, force := 120, blank := 3, window := 4, iso := false }

/-- A configured door in a state and a custody. -/
def doorIn (st : DoorState) (c : Custody := .sequencer) : Door := { Door.created entry1 with state := st, custody := c }

/-- A berth in a state, with door 1 in its map where the state holds one. -/
def berthIn (st : BerthState) : Berth := { Berth.reset with state := st, map := if st.holdsMap then [⟨0, 1, 1400⟩] else [] }

/-- A status that shows a closed and locked door. -/
def lockedStatus : Status := { pos := .closed, locked := true, overForce := false, handle := false, supplyLow := false, code := 0, current := 12 }

/-- The same with the supply low. -/
def lowStatus : Status := { lockedStatus with supplyLow := true }

/-- The profile of the tests: two train doors. -/
def fields1 : ProfileFields := { len := 40000, stop := 1000, tstop := 100, tpartial := 400, omin := 600, dagree := 50, rep := true, gap := 8 }
def profile1 : Profile := { state := .valid, fields := some fields1, doors := [⟨1000, 2400⟩, ⟨9000, 10400⟩] }

/-- A part in service with profile 1 and an edit of profile 2 by the station link. -/
def withProfiles (b : Berth) : State :=
  let s := ((part (doorIn .closedLocked) b).setProfile 0 profile1).setProfile 1 { profile1 with state := .editing }
  { s with cfg := { s.cfg with edit := some { owner := .link .station, profile := 1 } } }

/-- A zone of head 1 at door 1, kind GAP. -/
def zone1 : Zone :=
  { cfg := { head := 0, first := 0, count := 16, kind := .gap, d1 := 0, d2 := none, thr := 2, on := 2, off := 4, en := true },
    state := .clear, hits := 0, clears := 0, lastCount := none }

/-- A part in service with head 1 at one frame a turn, zone 1, and a slot to head 1 in progress. -/
def sensing (r : SlotReply) : State :=
  let s := ((part (doorIn .closedLocked) Berth.reset).setHead 0 { Head.reset with f := 1, age := some 20, status := some .ok }).setZone 0 (some zone1)
  s.setScan { s.sense.scan with slot := some { head := 0, frame := frameRequest 0, left := 8, reply := r, live := true } }

/-- The state that an outcome gives. -/
def after (o : Host.Outcome State Fault Refusal) : State :=
  match o with
  | .next t => t
  | .fault _ => State.reset
  | .refused _ => State.reset

/-- The reply that a link is sending. -/
def replyOn (l : Link) (s : State) : Option OutLine := (s.port l).sending

/-! Worked values. -/

/-- R65: the well-known check value of this CRC over the nine digits. -/
theorem test_crc : crc8 [0x31#8, 0x32#8, 0x33#8, 0x34#8, 0x35#8, 0x36#8, 0x37#8, 0x38#8, 0x39#8] = 0xF4#8 := by decide
/-- R63, 12 section 12.2: OPEN, lamp STEADY, no chime, force 120 to door 1. -/
theorem test_order_frame : (orderFrame 0 120 ⟨.opn, .steady, false⟩).take 3 = [0x01#8, 0x05#8, 0x78#8] := by decide
/-- R64: closed, locked, over-force, handle, supply low. -/
theorem test_status_frame : judgeStatus 2 (withCheck [0x03#8, 0x3C#8, 0x02#8, 0x10#8]) =
    .good { pos := .closed, locked := true, overForce := true, handle := true, supplyLow := true, code := 2, current := 16 } := by decide
/-- R190: position code 3, a set bit 6, and a code above 15 are bad frames. -/
theorem test_status_frame_bad : judgeStatus 2 (withCheck [0x03#8, 0x03#8, 0x00#8, 0x10#8]) = .miss .badCheck ∧
    judgeStatus 2 (withCheck [0x03#8, 0x40#8, 0x00#8, 0x10#8]) = .miss .badCheck ∧
    judgeStatus 2 (withCheck [0x03#8, 0x00#8, 0x10#8, 0x10#8]) = .miss .badCheck := by decide
/-- R18: the limits of a distance. -/
theorem test_sample : sampleOf [0xA5#8, 0x00#8, 0x04#8, 0x93#8, 0xE0#8, 0xdb#8] = some (.ok 300000) ∧
    sampleOf [0xA5#8, 0x00#8, 0x04#8, 0x93#8, 0xE1#8, 0xdc#8] = some (.ok 300000) ∧
    sampleOf [0xA5#8, 0x03#8, 0#8, 0#8, 0#8, crc8 [0x03#8, 0#8, 0#8, 0#8]] = none := by decide +kernel
/-- R49: the overlap of a door with its train door. -/
theorem test_overlap : overlap entry1 20000 ⟨1000, 2400⟩ = 1400 ∧ overlap entry1 20500 ⟨1000, 2400⟩ = 900 ∧
    overlap entry1 30000 ⟨1000, 2400⟩ = 0 := by decide
/-- R44 at its bounds: a difference equal to Dagree agrees; one more is settled by r, to A where both are as near. -/
theorem test_estimate : headEstimate fields1 none (some 1000) (some 1050) = .at_ 1025 true true .dual ∧
    headEstimate fields1 none (some 1000) (some 1051) = .fault .disagree ∧
    headEstimate fields1 (some 1030) (some 1000) (some 1060) = .at_ 1000 true false .arbitrated := by decide
/-- R47 at its bounds. -/
theorem test_class : stopClass fields1 (-100) = .normal ∧ stopClass fields1 101 = .wide ∧ stopClass fields1 401 = .outside := by decide
/-- R12 at its bounds. -/
theorem test_validate : validate fields1 [⟨1000, 1600⟩] = none ∧ validate fields1 [⟨1000, 1599⟩] = some (.width, some 1) ∧
    validate fields1 [⟨1000, 2400⟩, ⟨2400, 3400⟩] = some (.order, some 1) ∧ validate fields1 [] = some (.count, none) := by decide
/-- R160: the key read from its inputs. -/
theorem test_key : readKey true false false = (.auto, false) ∧ readKey false false true = (.maint, false) ∧
    readKey false false false = (.loc, true) ∧ readKey true true false = (.loc, true) := by decide
/-- R87: OP 0 opens the closed map door. -/
theorem test_open : replyOn .train (after (exec (.op .train 0) (part (doorIn .closedLocked) (berthIn .aligned)))) =
    some (.reply (.ok .op ["0", "1", "0"])) ∧
    ((after (exec (.op .train 0) (part (doorIn .closedLocked) (berthIn .aligned)))).door 0).state = .opening := by decide
/-- R86: OP where the berth is not ALIGNED. -/
theorem test_open_refused : replyOn .train (after (exec (.op .train 0) (part (doorIn .closedLocked) (berthIn .partialHeld)))) =
    some (.reply (.no "OP" .state)) := by decide
/-- R91: CL takes an open door to WARNING. -/
theorem test_close : ((after (exec (.cl .train 0) (part (doorIn .opened) (berthIn .aligned)))).door 0).state = .warning := by decide
/-- R167: CL from the station link. -/
theorem test_close_refused : replyOn .station (after (exec (.cl .station 0) (part (doorIn .opened) (berthIn .aligned)))) =
    some (.reply (.no "CL" .auth)) := by decide
/-- R167: the train link may not change a setting. -/
theorem test_setting_refused : replyOn .train (after (exec (.ts .train (.is .warn) (some 3000)) (part (doorIn .opened) (berthIn .empty)))) =
    some (.reply (.no "TS" .auth)) := by decide
/-- R16: WARN above MAXHOLD takes MAXHOLD with it. -/
theorem test_setting : (after (exec (.ts .station (.is .warn) (some 9500)) (part (doorIn .opened) (berthIn .empty)))).settings.maxhold = 9500 := by
  decide
/-- R141: a request for a map door is queued. -/
theorem test_request : replyOn .panel (after (exec (.mq .panel 1) (part (doorIn .closedLocked) (berthIn .aligned) .loc))) =
    some (.reply (.ok .mq ["1", "PENDING", "1"])) := by decide
/-- R158: the status with door 1 open. -/
theorem test_status : replyOn .train (after (exec (.es .train none none) (part (doorIn .opened) (berthIn .empty)))) =
    some (.reply (.ok .es ["NOT_SECURE", "DOOR_NOT_LOCKED", "1", "0"])) := by decide
/-- R151, R156: with every counted door locked the output is active. -/
theorem test_secure : (part (doorIn .closedLocked) (berthIn .aligned)).sec.output = true ∧
    (part (doorIn .opened .isolated) (berthIn .aligned)).sec.output = true ∧
    (part (doorIn .closedLocked) (berthIn .movedOpen)).sec.reasons = [.movedOpen] := by decide
/-- R187: a part with no script goes to CONFIG_FAULT at power-on. -/
theorem test_power_on : (after (exec (.powerOn true true false) State.reset)).start.phase = .configFault ∧
    (after (exec (.powerOn true true false) State.reset)).power.rate = .r115200 := by decide
/-- R186: one line of a script, run from reset. -/
theorem test_script : (after (exec .scriptLine
    { State.reset with start := { StartUp.reset with mem := memLoad 0 ("TS WARN 3000\r".toList.map fun c => BitVec.ofNat 8 c.toNat) [] } })).settings.warn =
    3000 := by decide

/-- R192: a sample in two parts, the first behind a stray byte. -/
theorem test_sample_parts :
    ((after (exec (.rangingSample .a ((okSampleBytes 5000).drop 3))
      (after (exec (.rangingSample .a (0x11#8 :: (okSampleBytes 5000).take 3)) (part (doorIn .opened) Berth.reset))))).trk.sensorA.last) =
    some 5000 := by decide +kernel
/-- R131: the removal of an isolated door reports its custody before its door. -/
theorem test_removal_custody : (after (exec (.dx .station 1) (part (doorIn .closedLocked .isolated) Berth.reset))).ports.panel.queue =
    [⟨.custody, some 1, ["SEQUENCER", "-", "SEQUENCER", "NONE", "HOLD", "-"]⟩, ⟨.door, some 1, ["REMOVED"]⟩] := by decide +kernel
/-- R179: the line that goes out. -/
theorem test_line_sent : (OutLine.reply (.ok .op ["0", "1", "0"])).sent = "OK OP 0 1 0\r\n".toList := by decide +kernel
/-- R169: the reset-permit level that a change of the inputs brings is what AS then shows. -/
theorem test_permit_level : (part (doorIn .opened) Berth.reset).asF.getLast? = some "INACTIVE" ∧
    (after (exec (.esrInputChange ⟨false, true⟩) (part (doorIn .opened) Berth.reset))).asF.getLast? = some "ACTIVE" := by decide +kernel
/-! States and operands that meet the hypotheses of each statement, clause by clause. -/

/-- The laws, at a part in service that takes a step. -/
theorem test_witness_laws : (withProfiles Berth.reset).secureCurrent ∧ (withProfiles Berth.reset).releaseLaw ∧
    (withProfiles Berth.reset).testLaw ∧ (withProfiles Berth.reset).queueLaw ∧ (withProfiles Berth.reset).settingsLaw ∧
    (withProfiles Berth.reset).mapLaw ∧ (withProfiles Berth.reset).supervisionLaw ∧ (withProfiles Berth.reset).memLaw := by
  unfold State.secureCurrent State.releaseLaw State.testLaw State.queueLaw Port.queueLaw State.mapLaw State.supervisionLaw State.memLaw
    Door.custodyLaw
  refine ⟨by decide, by decide, by decide, fun l => by cases l <;> decide, fun n => by cases n <;> decide, by decide, by decide, by decide⟩
theorem test_witness_storeLaw : (withProfiles Berth.reset).storeLaw := by
  refine ⟨by decide, fun p => ⟨fun h => ⟨_, rfl, ?_⟩, fun h => ?_⟩, fun p => ?_⟩
  · revert p; decide
  · obtain ⟨e, he, hp⟩ := h
    have h2 : e = { owner := .link .station, profile := 1 } := (Option.some.inj he).symm
    subst h2; subst hp; decide
  · revert p; decide

theorem test_witness_zoneLaw : (part (doorIn .closedLocked) Berth.reset).zoneLaw := by
  have hz : ∀ z : ZoneIx, (part (doorIn .closedLocked) Berth.reset).zone z = none := by decide +kernel
  have hs : (part (doorIn .closedLocked) Berth.reset).sense.scan.slot = none := by decide +kernel
  unfold State.zoneLaw
  refine ⟨fun sl h => ?_, by decide +kernel, fun z x h => ?_⟩
  · rw [hs] at h; cases h
  · rw [hz z] at h; cases h
theorem test_witness_limits : (part (doorIn .closedLocked) Berth.reset).boundsLaw ∧
    (part (doorIn .closedLocked) Berth.reset).retryLaw := by
  have h : ∀ i : DoorIx, ((part (doorIn .closedLocked) Berth.reset).door i).retry = 0 := by decide +kernel
  refine ⟨⟨by decide +kernel, by decide +kernel, by decide +kernel, fun x => by cases x <;> decide +kernel,
    fun l => by cases l <;> decide +kernel, by decide +kernel⟩, fun i _ _ => by rw [h i]; exact Nat.zero_le _⟩
theorem test_witness_alignLaw : (part (doorIn .closedLocked) Berth.reset).alignLaw := by
  intro h; exact absurd h (by decide +kernel)
/-- A stop at the edge of the tolerance. -/
theorem test_witness_alignLaw_aligned :
    (withProfiles { berthIn .aligned with profile := some 0, est := some ⟨1100, true, true, .dual, 100, .normal⟩ }).alignLaw :=
  fun _ => ⟨0, fields1, ⟨1100, true, true, .dual, 100, .normal⟩, by decide +kernel, by decide +kernel, by decide +kernel,
    by decide +kernel, by decide +kernel, fun _ _ => by decide +kernel⟩
/-- Release active with a map door that it has taken; a request that waits; a berth MOVED_OPEN; a held warning timer. -/
theorem test_witness_platformLaws :
    ({ part { doorIn .opening .emergency with rPlatform := true } (berthIn .aligned) with
        rel := { Release.reset with trainLatch := true } } : State).takenLaw ∧
    ({ part (doorIn .opened) Berth.reset with rel := { Release.reset with pendingMaint := [0] } } : State).grantLaw ∧
    (part (doorIn .opened) (berthIn .movedOpen)).movedOpenLaw ∧ (sensing .done).focusLaw ∧
    (part { doorIn .warning with warn := some 5 } Berth.reset).warningLaw := by
  unfold State.takenLaw State.grantLaw State.movedOpenLaw State.focusLaw State.warningLaw
  refine ⟨?_, ?_, ?_, ?_, ?_⟩ <;> decide +kernel
theorem test_witness_SecureLaw : (part (doorIn .closedLocked) Berth.reset).secureCurrent ∧
    (∀ i : DoorIx, ((part (doorIn .closedLocked) Berth.reset).door i).custodyLaw) ∧
    (part (doorIn .closedLocked) Berth.reset).sec.flag = true := by
  unfold State.secureCurrent Door.custodyLaw; decide +kernel
theorem test_witness_PortInputsKept : writesInputs (.op .train 0) = false ∧
    (part (doorIn .closedLocked) Berth.reset).ports.panel.inHand = false ∧
    (∃ t, exec (.op .train 0) (part (doorIn .closedLocked) Berth.reset) = .next t) := ⟨by decide, by decide, ⟨_, rfl⟩⟩
theorem test_witness_StepOnEmptyQueue : (part (doorIn .closedLocked) Berth.reset).due = [] ∧
    (part { doorIn .warning with warn := some 0 } Berth.reset).due = [.warningExpiry 1] := by decide +kernel
/-- A part that runs, with a door in HELD and one in WARNING, and a part with no supply; and a millisecond of a warning timer. -/
theorem test_witness_StepOnEmptyQueue_tick : (part { doorIn .held with heldFrom := some .closing } Berth.reset).alive = true ∧
    ((part { doorIn .held with heldFrom := some .closing } Berth.reset).door 0).state = .held ∧
    ((part (doorIn .warning) Berth.reset).door 0).state ≠ .held ∧ (after (exec .powerLoss State.reset)).alive = false ∧
    ((tick (part { doorIn .warning with warn := some 5, warnHeld := true, maxHold := some 5 } Berth.reset)).door 0).warn = some 5 ∧
    ((tick (part { doorIn .warning with warn := some 5, warnHeld := true, maxHold := some 5 } Berth.reset)).door 0).maxHold = some 4 := by
  decide +kernel
theorem test_witness_FramesRead : lockedStatus.code < 16 ∧ lockedStatus.current < 256 ∧ (1 : DoorIx) ≠ 0 ∧
    (0xFF#8 : Byte) ≠ crc8 (statusFrame 0 lockedStatus).dropLast ∧ ([] : List Byte).length ≤ 16 ∧
    (List.replicate 16 0#8).length ≤ 16 ∧ 16777215 < 16777216 := by decide +kernel
theorem test_witness_OrderCarried : (part (doorIn .opening) (berthIn .aligned)).start.phase = .running ∧
    ((part (doorIn .opening) (berthIn .aligned)).orderFor 0).drive = .opn ∧
    ((part (doorIn .opening) Berth.reset).orderFor 0).drive = .hold ∧
    ((part (doorIn .reopening) Berth.reset).orderFor 0).drive = .opn ∧
    ((part { doorIn .closedLocked .maint with mOrder := .opn } Berth.reset).orderFor 0).drive = .opn ∧
    ((part (doorIn .released .emergency) Berth.reset).orderFor 0).drive = .release ∧
    (nextPoll { part (doorIn .opened) Berth.reset with bus := ⟨[0], none⟩ }).bus.poll.isSome = true ∧ State.reset.start.phase = .starting := by
  decide +kernel
/-- Door 1 opening, with the order of its last poll and an over-force run of 2, next in the bus cycle. -/
def pollNext (o : Option DriveOrder) : State :=
  { part { doorIn .opening with lastOrder := o, ovf := 2 } (berthIn .aligned) with bus := ⟨[0], none⟩ }

/-- R70: the order differs from the last, is the same, or is the first. -/
theorem test_witness_OrderCarried_run : ((pollNext (some .hold)).door 0).entry = some entry1 ∧
    (pollNext (some .hold)).start.phase ≠ .starting ∧ ((pollNext (some .hold)).orderFor 0).drive = .opn ∧
    ((nextPoll (pollNext (some .hold))).door 0).ovf = 0 ∧ ((nextPoll (pollNext (some .opn))).door 0).ovf = 2 ∧
    ((nextPoll (pollNext none)).door 0).ovf = 2 := by decide +kernel
theorem test_witness_LinesRead : (part (doorIn .opened) Berth.reset).alive = true ∧
    parseLine .panel "BS".toList = .record (.bs .panel) ∧ "BS".toList ≠ [] := by decide +kernel
theorem test_witness_RecordRefused :
    (linkOf (.op .station 0) = some .station ∧ verbOf (.op .station 0) = some .op ∧ formReason (.op .station 0) = none ∧
      (part (doorIn .opened) Berth.reset).alive = true ∧ ((part (doorIn .opened) Berth.reset).port .station).idle ∧
      gate (.link .station) .op (part (doorIn .opened) Berth.reset) = some .auth) ∧
    ((part (doorIn .opened) Berth.reset).ready .station .dx ∧ formReason (.dx .station 33) = none ∧
      (match runRecord (.link .station) (.dx .station 33) (part (doorIn .opened) Berth.reset) with
        | .no why => why == .range | .ok _ _ => false | .wait _ => false) = true) ∧
    (formReason (.er .panel (some false)) = none ∧ (part (doorIn .opened) Berth.reset).ports.panel.idle ∧
      gate (.link .panel) .er (presetPermit (.er .panel (some false)) (part (doorIn .opened) Berth.reset)) = some .auth) := by
  unfold State.ready Port.idle; decide +kernel
theorem test_witness_GeometryHeld : (part (doorIn .opened) (berthIn .aligned)).berth.state ≠ .empty ∧
    (part (doorIn .opened) (berthIn .aligned)).ready .station .dc ∧ (part (doorIn .opened) (berthIn .aligned)).ready .station .dx ∧
    (part (doorIn .opened) (berthIn .aligned)).ready .station .zc ∧ (part (doorIn .opened) (berthIn .aligned)).ready .station .zx ∧
    (part (doorIn .opened) (berthIn .aligned)).ready .station .mk ∧ (part (doorIn .opened) (berthIn .aligned)).ready .station .mx ∧
    (part (doorIn .opened) (berthIn .aligned)).ready .station .ro ∧ (part (doorIn .opened) (berthIn .aligned)).turnWith 11 7 ≤ 48 ∧
    (part (doorIn .opened) (berthIn .aligned)).ready .station .ts := by
  unfold State.ready Port.idle; decide +kernel
theorem test_witness_QueriesAnswer : (sensing .done).ready .train .bs ∧ (sensing .done).ready .train .auth ∧
    (sensing .done).ready .train .ka ∧ (sensing .done).ready .train .es ∧ (sensing .done).ready .train .sv ∧
    (sensing .done).ready .train .hs ∧ (sensing .done).zone 0 = some zone1 ∧ (sensing .done).ready .train .zs ∧
    (sensing .done).ready .train .ds ∧ ((sensing .done).door 0).configured = true := by
  unfold State.ready Port.idle; decide +kernel
theorem test_witness_CursorReads : (withProfiles (berthIn .aligned)).ready .train .bm ∧ (withProfiles (berthIn .aligned)).ready .train .ul ∧
    (1 : Nat) ≤ (withProfiles (berthIn .aligned)).berth.map.length ∧ (withProfiles (berthIn .aligned)).ready .train .pr ∧
    ((withProfiles (berthIn .aligned)).profile 0).state ≠ .empty ∧ ((withProfiles (berthIn .aligned)).profile 0).fields = some fields1 ∧
    ((withProfiles (berthIn .aligned)).profile 2).state = .empty ∧ (withProfiles (berthIn .aligned)).ready .train .es ∧
    (withProfiles (berthIn .aligned)).secureCurrent ∧
    ((withProfiles (berthIn .aligned)).berth.map.length : Int) < 2 ∧ ((withProfiles (berthIn .aligned)).sec.zones.length : Int) < 1 := by
  unfold State.ready Port.idle State.secureCurrent; decide +kernel
theorem test_witness_CursorReads_start :
    ((withProfiles (berthIn .aligned)).port .train).listCur.startsAt (.profile 0) 2 none 0 true ∧
    ListCursor.startsAt ⟨.profile 0, 1, false⟩ (.profile 0) 2 none 1 false ∧
    ListCursor.startsAt ⟨.profile 0, 1, true⟩ (.profile 0) 2 (some 2) 2 true ∧
    ListCursor.startsAt ⟨.doors, 1, false⟩ .zones 0 (some 0) 0 true := by unfold ListCursor.startsAt; decide +kernel
theorem test_witness_TimingSettingStored : (part (doorIn .opened) Berth.reset).ready .station .ts ∧
    (part (doorIn .opened) Berth.reset).settings.warn ≤ 10000 := by
  unfold State.ready Port.idle; decide +kernel

/-- A part with a poll of door 1 in flight. -/
def polling (s : State) : State := { s with bus := ⟨[0], some ⟨0, [], 12, false⟩⟩ }

theorem test_witness_SafetyReportsQueued :
    (polling (part { doorIn .opened with misses := 3 } Berth.reset)).bus.poll = some ⟨0, [], 12, false⟩ ∧
    ((polling (part { doorIn .opened with misses := 3 } Berth.reset)).door 0).live.handle = false ∧
    judgePoll 0 .late = .miss .late ∧ ((polling (part { doorIn .opened with misses := 2 } Berth.reset)).door 0).misses = 2 ∧
    (part (doorIn .opened) (berthIn .aligned)).ready .train .eo ∧ (part (doorIn .opened) (berthIn .aligned)).rel.trainLatch = false ∧
    ({ Release.reset with esrTimer := some 0 } : Release).esrTimer.isSome = true ∧
    ({ part (doorIn .opened) Berth.reset with
        rel := { Release.reset with trainLatch := true }, power := { Power.reset with permit := true } } : State).ready .panel .er ∧
    ({ Release.reset with trainLatch := true } : Release).active = true ∧
    (part (doorIn .opened) (berthIn .departing)).ready .train .dp ∧ (part (doorIn .opened) (berthIn .departing)).mapClosed = false ∧
    ((part (doorIn .opened) (berthIn .aligned)).setAuth { Auth.reset with stage := .late, supv := some 0 }).ready .train .ka ∧
    (part (doorIn .opened) (berthIn .aligned)).power.auto ≠ false := by
  unfold State.ready Port.idle; decide +kernel
/-- A part in which the train release latch stands. -/
def released (s : State) : State := { s with rel := { s.rel with trainLatch := true } }

/-- The reports of RJ, the loss of the target, IU, a sample, the key and power-on. -/
theorem test_witness_SafetyReportsQueued_more : (released (part (doorIn .opened) (berthIn .partialHeld))).ready .train .rj ∧
    (released (part (doorIn .opened) (berthIn .partialHeld))).rel.active = true ∧ BerthState.holdsMap .movedOpen = true ∧
    ({ Tracker.reset with loss := some 0, berth := berthIn .movedOpen } : Tracker).loss.isSome = true ∧
    (part { doorIn .opened .isolated with last := some { lockedStatus with handle := true } } Berth.reset).ready .station .iu ∧
    ((part { doorIn .opened .isolated with last := some { lockedStatus with handle := true } } Berth.reset).door 0).live.handle = true ∧
    (part (doorIn .opened) Berth.reset).reportMarks none = true ∧
    ((part (doorIn .opened) Berth.reset).setTrk { Tracker.reset with
        berth := { berthIn .aligned with est := some ⟨5000, true, false, .single, 4000, .normal⟩ } }).awayFromHead .a 300000 = true ∧
    ((part (doorIn .opened) (berthIn .aligned)).trk.sensor .a).part = [] ∧
    (readKey false true false).1 ≠ .auto ∧ ({ Auth.reset with stage := .lost, fallback := true } : Auth).fallback = true ∧
    State.reset.power.resetPin = false ∧
    (after (exec (.powerOn true true false) { State.reset with power := { Power.reset with auto := false, loc := false, maint := false } })).auth.keyFault =
      true := by
  unfold State.ready Port.idle; decide +kernel
theorem test_witness_DoorCreatedAndRemoved : (polling (part (doorIn .opened) Berth.reset)).ready .station .dc ∧
    (polling (part (doorIn .opened) Berth.reset)).berth.state = .empty ∧
    ((polling (part (doorIn .opened) Berth.reset)).door 1).entry = none ∧
    (match dcEntry none (some 23000) (some 24400) none none none none none none none with
      | some e => e.widthOk && !(polling (part (doorIn .opened) Berth.reset)).edgesClash 1 e
      | none => false) = true ∧ (polling (part (doorIn .opened) Berth.reset)).bus.poll.isSome = true ∧
    (part Door.reset Berth.reset).ready .station .dc ∧ (part Door.reset Berth.reset).bus = ⟨[], none⟩ ∧
    (part Door.reset Berth.reset).configuredDoors = [] ∧ ((part Door.reset Berth.reset).door 1).entry = none ∧
    (part Door.reset Berth.reset).edgesClash 1 entry1 = false := by
  unfold State.ready Port.idle; decide +kernel
theorem test_witness_DoorEdited : (part (doorIn .opened) Berth.reset).ready .station .dc ∧
    (part (doorIn .opened) Berth.reset).berth.state = .empty ∧ ((part (doorIn .opened) Berth.reset).door 0).entry = some entry1 ∧
    dcEntry (some entry1) none none none none (some 0) none none none none = some { entry1 with retry := 0 } ∧
    ({ entry1 with retry := 0 } : DoorEntry).widthOk = true ∧
    (part (doorIn .opened) Berth.reset).edgesClash 0 { entry1 with retry := 0 } = false ∧
    ((part (doorIn .opened) Berth.reset).door 0).custody ≠ .emergency ∧
    ((part (doorIn .opened) Berth.reset).door 0).testPhase = .none ∧
    dcEntry (some entry1) none none none none none none none none (some (.is true)) = some { entry1 with iso := true } ∧
    (part (doorIn .closedLocked) Berth.reset).edgesClash 0 { entry1 with iso := true } = false ∧
    dcEntry (some { entry1 with iso := true }) none none none none none none none none (some (.is false)) = some entry1 ∧
    (part { doorIn .fault .isolated with fault := some .comms } Berth.reset).ready .station .dc ∧
    (0 : DoorIx) ∉ (part (doorIn .fault .isolated) Berth.reset).rel.pendingMaint := by
  unfold State.ready Port.idle; decide +kernel
theorem test_witness_DoorCreatedAndRemoved_removed : (part (doorIn .opened) Berth.reset).ready .station .dx ∧
    (part (doorIn .opened) Berth.reset).berth.state = .empty ∧ ((part (doorIn .opened) Berth.reset).door 0).configured = true ∧
    ((part (doorIn .opened) Berth.reset).door 0).custody ≠ .emergency ∧
    ((part (doorIn .opened) Berth.reset).door 0).testPhase = .none ∧ (part (doorIn .opened) Berth.reset).zoneNames 0 = false := by
  unfold State.ready Port.idle; decide +kernel
theorem test_witness_ProfileEdited : (withProfiles Berth.reset).ready .station .pb ∧ (withProfiles Berth.reset).referenced 2 = false ∧
    (withProfiles Berth.reset).foreignEdit (.link .station) = false ∧
    (pbFields (some 40000) (some 1000) (some 100) (some 400) (some 600) (some 50) (some (.is true)) (some 8)).isSome = true ∧
    (withProfiles Berth.reset).ready .station .pd ∧ (withProfiles Berth.reset).ownsEdit (.link .station) = some 1 ∧
    ((withProfiles Berth.reset).profile 1).doors.length < 48 ∧ 300000 ≤ 300000 := by
  unfold State.ready Port.idle; decide +kernel
/-- The edit of profile 2 as the panel's. -/
def editedByPanel (s : State) : State := { s with cfg := { s.cfg with edit := some { owner := .link .panel, profile := 1 } } }

theorem test_witness_ProfileEnded : (withProfiles Berth.reset).ready .station .pe ∧
    (withProfiles Berth.reset).ownsEdit (.link .station) = some 1 ∧ ((withProfiles Berth.reset).profile 1).fields = some fields1 ∧
    validate fields1 ((withProfiles Berth.reset).profile 1).doors = none ∧ validate fields1 [] = some (.count, none) ∧
    validate fields1 [⟨1000, 1100⟩] = some (.width, some 1) ∧ (withProfiles Berth.reset).ready .station .px ∧
    (withProfiles Berth.reset).referenced 1 = false ∧ (editedByPanel (withProfiles Berth.reset)).ready .station .px ∧
    ((editedByPanel (withProfiles Berth.reset)).profile 1).state = .editing ∧
    (editedByPanel (withProfiles Berth.reset)).ownsEdit (.link .station) ≠ some 1 ∧
    (withProfiles { berthIn .aligned with profile := some 0 }).ready .station .px ∧
    (withProfiles { berthIn .aligned with profile := some 0 }).referenced 0 = true ∧ ((0 : Int) < 1 ∨ 8 < (0 : Int)) ∧ ((9 : Int) < 1 ∨ 8 < (9 : Int)) := by
  unfold State.ready Port.idle; decide +kernel
theorem test_witness_MarksRotationAndZonesSet : (part (doorIn .opened) Berth.reset).ready .station .mk ∧
    (part (doorIn .opened) Berth.reset).berth.state = .empty ∧
    ((part (doorIn .opened) Berth.reset).setMark 0 (some ⟨300000, .inbound, .report⟩)).ready .station .mx ∧
    (((part (doorIn .opened) Berth.reset).setMark 0 (some ⟨300000, .inbound, .report⟩)).mark 0).isSome = true ∧
    (part (doorIn .opened) Berth.reset).ready .station .ro ∧ (part (doorIn .opened) Berth.reset).turnWith 0 7 ≤ 48 ∧
    (part (doorIn .opened) Berth.reset).turnWith 0 0 ≤ 48 := by
  unfold State.ready Port.idle; decide +kernel
theorem test_witness_MarksRotationAndZonesSet_zones : (sensing .done).ready .station .zc ∧ (sensing .done).berth.state = .empty ∧
    zoneRecord (some 1) (some 0) (some 64) (some (.is .gap)) (some 1) none (some 64) none none none =
      some { head := 0, first := 0, count := 64, kind := .gap, d1 := 0, d2 := none, thr := 64, on := 2, off := 4, en := true } ∧
    ((sensing .done).door 0).configured = true ∧ ((sensing .done).head 0).skipped = false ∧ (sensing .done).ready .station .zx ∧
    ((sensing .done).zone 0).isSome = true := by
  unfold State.ready Port.idle; decide +kernel

/-- Both sensors in a state with nothing held. -/
def sensorsIn (st : SensorState) (s : State) : State :=
  s.setTrk { s.trk with sensorA := { Sensor.reset with state := st }, sensorB := { Sensor.reset with state := st } }

/-- A part in service with a berth, mark 1, and sensor A with a window and a reference value. -/
def tracking (b : Berth) (w : List Nat) (ref : Option Nat) (m : Mark := ⟨4000, .either, .report⟩) : State :=
  ((withProfiles b).setTrk
    { Tracker.reset with
      berth := b
      prevT := some 5000
      sensorA := { Sensor.reset with state := .ok, last := some 5000, window := w, ref := ref } }).setMark 0 (some m)

/-- A berth whose head position is 5000, read from sensor A. -/
def headAt (st : BerthState) : Berth := { berthIn st with profile := some 0, est := some ⟨5000, true, false, .single, 4000, .outside⟩ }

theorem test_witness_SampleJudged : (tracking (berthIn .approach) (List.replicate 7 5000) none).alive = true ∧
    ((tracking (berthIn .approach) (List.replicate 7 5000) none).sensed .a 5000).standstill = true ∧
    ((tracking (berthIn .approach) (List.replicate 6 5000) none).sensed .a 5000).standstill = false ∧
    (((tracking (berthIn .approach) (List.replicate 7 5000) none).sensed .a 5000).sensor .a).usable = true ∧
    (tracking (berthIn .approach) [] none).reportMarks none = true ∧
    (tracking (berthIn .awaitProfile) [] (some 5000)).awayFromRef .a
      (5001 + (tracking (berthIn .awaitProfile) [] none).settings.move) = true ∧
    (tracking (berthIn .awaitProfile) [] (some 5000)).awayFromRef .a
      (5000 + (tracking (berthIn .awaitProfile) [] none).settings.move) = false ∧
    (tracking (headAt .aligned) [] none).awayFromHead .a (5001 + (tracking (headAt .aligned) [] none).settings.move) = true ∧
    (tracking (headAt .partialHeld) [] none).awayFromHead .a (5000 + (tracking (headAt .partialHeld) [] none).settings.move) = false ∧
    (tracking (headAt .departing) [] none).mapClosed = true ∧
    (part (doorIn .opened) (headAt .aligned)).mapClosed = false := by decide +kernel
theorem test_witness_SampleJudged_marks : (tracking (berthIn .approach) [] none).mark 0 = some ⟨4000, .either, .report⟩ ∧
    (tracking (berthIn .approach) [] none).trk.prevT = some 5000 ∧
    ((tracking (berthIn .approach) [] none).sensed .a 4000).trackT = some 4000 ∧
    ((tracking (berthIn .approach) [] none ⟨4000, .inbound, .overrun⟩).sensed .a 4000).trackT = some 4000 ∧
    (tracking (berthIn .approach) [] none ⟨4000, .inbound, .overrun⟩).reportMarks (some 0) = true ∧
    (tracking (berthIn .departing) [] none ⟨5000, .outbound, .clear⟩).reportMarks (some 0) = true ∧
    ((tracking (berthIn .departing) [] none ⟨5000, .outbound, .clear⟩).sensed .a 5001).trackT = some 5001 ∧
    5001 ≤ (tracking (berthIn .departing) [] none).settings.approach ∧
    ((tracking (berthIn .movedOpen) [] none ⟨5000, .outbound, .clear⟩).sensed .a
      (1 + (tracking (berthIn .movedOpen) [] none).settings.approach)).trackT =
      some (1 + (tracking (berthIn .movedOpen) [] none).settings.approach) := by decide +kernel
theorem test_witness_TrainAnnounced : (withProfiles (berthIn .empty)).ready .train .ar ∧
    ((withProfiles (berthIn .empty)).profile 0).state = .valid ∧ [1, 2].Pairwise (· < ·) ∧
    (2 ≤ 48 ∧ 2 ≤ ((withProfiles (berthIn .empty)).profile 0).doors.length) ∧
    (withProfiles (berthIn .empty)).berth.state = .empty ∧ (withProfiles (berthIn .approach)).ready .train .ar ∧
    (withProfiles (berthIn .approach)).berth.state = .approach ∧ (withProfiles (berthIn .awaitProfile)).ready .train .ar ∧
    (withProfiles (berthIn .awaitProfile)).berth.state = .awaitProfile ∧ (withProfiles (berthIn .awaitProfile)).ready .train .sp ∧
    (withProfiles (berthIn .empty)).ready .train .sp ∧ (sensorsIn .fault (withProfiles (berthIn .empty))).trk.sensorA.dead = true ∧
    (sensorsIn .silent (withProfiles (berthIn .empty))).trk.sensorB.dead = true := by
  unfold State.ready Port.idle; decide +kernel
theorem test_witness_DepartureTold : (withProfiles (berthIn .outOfBerth)).ready .train .dp ∧
    (part (doorIn .closedLocked) (berthIn .aligned)).ready .train .dp ∧
    (part (doorIn .closedLocked) (berthIn .aligned)).mapClosed = true ∧ (part (doorIn .opened) (berthIn .aligned)).ready .train .dp ∧
    (part (doorIn .opened) (berthIn .aligned)).mapClosed = false ∧ (part (doorIn .closedLocked) (berthIn .partialHeld)).ready .train .dp ∧
    (part (doorIn .closedLocked) (berthIn .partialHeld)).mapClosed = true ∧
    (part (doorIn .closedLocked) (berthIn .departing)).ready .train .dp ∧
    (part (doorIn .closedLocked) (berthIn .departing)).mapClosed = true ∧
    (part (doorIn .opened) (berthIn .departing)).mapClosed = false ∧ (part (doorIn .opened) (berthIn .departing)).rel.active = false ∧
    ({ part (doorIn .opened) (berthIn .departing) with rel := { Release.reset with esrLatch := true } } : State).rel.active = true ∧
    ((part (doorIn .opened) (berthIn .departing)).door 0).custody = .sequencer ∧
    (part (doorIn .opened) (berthIn .departing)).berth.isMapDoor 0 = true ∧
    (part (doorIn .opened) (berthIn .movedOpen)).ready .train .dp ∧ (part (doorIn .opened) (berthIn .approach)).ready .train .dp ∧
    (part (doorIn .opened) Berth.reset).ready .train .dp := by
  unfold State.ready Port.idle; decide +kernel
theorem test_witness_BerthJudged : (part (doorIn .closedLocked) (berthIn .partialHeld)).ready .train .ac ∧
    (part (doorIn .closedLocked) (berthIn .partialHeld)).ready .train .rj ∧
    (part (doorIn .closedLocked) (berthIn .departing)).ready .station .bc ∧ (berthIn .departing).state.takesBc = true ∧
    (part (doorIn .closedLocked) (berthIn .departing)).trk.trackT = none ∧
    ({ Tracker.reset with sensorA := { Sensor.reset with state := .ok, last := some 5000 } } : Tracker).trackT.isSome = true := by
  unfold State.ready Port.idle; decide +kernel
theorem test_witness_HeadEstimated : (1000 ≤ 1050 + fields1.dagree ∧ 1050 ≤ 1000 + fields1.dagree) ∧ (1000 + fields1.dagree < 1051) ∧
    ((1000 : Int) - 1030).natAbs ≤ ((1060 : Int) - 1030).natAbs ∧ ((1060 : Int) - 1031).natAbs < ((1000 : Int) - 1031).natAbs ∧
    ((withProfiles Berth.reset).profile 0).fields = some fields1 ∧
    headEstimate fields1 none (some 1000) (some 1051) = .fault .disagree := by decide +kernel
/-- A part with door 1 under the one train door of profile 1, the target stop at 20 000 and the berth about to be aligned. -/
def aligning (d : Door) : State :=
  (part d Berth.reset).setProfile 0 { profile1 with fields := some { fields1 with stop := 20000 }, doors := [⟨1000, 2400⟩] }
def toAlign : Berth := { Berth.reset with state := .approach, profile := some 0 }

/-- R44, R47 at their bounds: the estimates of the next test. -/
theorem test_witness_MapAndOutcomeFormed : ((aligning (doorIn .closedLocked)).profile 0).fields = some { fields1 with stop := 20000 } ∧
    fields1.tstop ≤ fields1.tpartial ∧
    headEstimate { fields1 with stop := 20000 } none (some 20100) (some 20100) = .at_ 20100 true true .dual ∧
    headEstimate { fields1 with stop := 20000 } none (some 20400) (some 20400) = .at_ 20400 true true .dual ∧
    headEstimate { fields1 with stop := 20000 } none (some 20401) (some 20401) = .at_ 20401 true true .dual ∧
    (aligning (doorIn .closedLocked)).formMap { fields1 with stop := 20000 } 20100
      (eligibleTrain toAlign.cuts ((aligning (doorIn .closedLocked)).profile 0).doors) = [⟨0, 1, 1300⟩] ∧
    (aligning (doorIn .closedLocked .isolated)).formMap { fields1 with stop := 20000 } 20100
      (eligibleTrain toAlign.cuts ((aligning (doorIn .closedLocked)).profile 0).doors) = [] := by decide +kernel
/-- R52 to R55: all conditions met; wide at both ends of its range; a train door uncovered; one sensor; no match; outside. -/
theorem test_align : ((aligning (doorIn .closedLocked)).align toAlign (some 20100) (some 20100)).state = .aligned ∧
    ((aligning (doorIn .closedLocked)).align toAlign (some 20101) (some 20101)).partials = ⟨true, false, false⟩ ∧
    ((aligning (doorIn .closedLocked)).align toAlign (some 20400) (some 20400)).state = .partialHeld ∧
    ((aligning (doorIn .fault)).align toAlign (some 20100) (some 20100)).uncovered = [1] ∧
    ((aligning (doorIn .closedLocked)).align toAlign (some 20100) none).partials = ⟨false, true, false⟩ ∧
    ((aligning (doorIn .closedLocked .isolated)).align toAlign (some 20100) (some 20100)).fault = some .noMatch ∧
    ((aligning (doorIn .closedLocked)).align toAlign (some 20401) (some 20401)).oob = some .tolerance := by decide +kernel
theorem test_witness_OpenCommand : (part (doorIn .closedLocked) (berthIn .aligned)).ready .train .op ∧
    (part (doorIn .closedLocked) (berthIn .aligned)).berth.state = .aligned ∧
    (part (doorIn .closedLocked) (berthIn .aligned)).auth.hold = false ∧ (0 : DoorIx) ∈ (part (doorIn .closedLocked) (berthIn .aligned)).opDoors 0 ∧
    (0 : DoorIx) ∈ (part (doorIn .fault) (berthIn .aligned)).opDoors 1 ∧ (0 : DoorIx) ∉ (part (doorIn .fault) (berthIn .aligned)).opDoors 15 ∧
    ((part (doorIn .warning) (berthIn .aligned)).door 0).live.supply = false := by
  unfold State.ready Port.idle; decide +kernel
theorem test_witness_CloseCommand : (part (doorIn .opened) (berthIn .aligned)).ready .train .cl ∧
    (part (doorIn .opened) (berthIn .aligned)).auth.hold = false ∧ (0 : DoorIx) ∈ (part (doorIn .opened) (berthIn .aligned)).clDoors 0 ∧
    ({ doorIn .fault with fault := some .lockFail } : Door).softFault = true ∧
    ({ doorIn .closedUnlocked with last := some lowStatus } : Door).live.supply = true ∧
    ({ doorIn .fault with fault := some .drive } : Door).softFault = false := by
  unfold State.ready Port.idle; decide +kernel
theorem test_witness_PlatformHold : (part (doorIn .closing) (berthIn .aligned)).ready .train .hd ∧
    ((part (doorIn .closing) (berthIn .aligned)).door 0).freezable = true ∧
    (part (doorIn .closing) (berthIn .aligned) .auto true).ready .train .hd ∧
    (part { doorIn .held with heldFrom := some .closing } (berthIn .aligned) .auto true).ready .train .rm ∧
    ((part { doorIn .held with heldFrom := some .closing } (berthIn .aligned) .auto true).door 0).live.supply = false ∧
    ((part { doorIn .held with heldFrom := some .warning, last := some lowStatus } (berthIn .aligned) .auto true).door
      0).live.supply = true := by
  unfold State.ready Port.idle; decide +kernel

/-- Door 1 in EMERGENCY custody with HANDLE, and with PLATFORM where b is set; its last status shows it locked. -/
def handledDoor (b : Bool) : Door := { doorIn .released .emergency with rHandle := true, rPlatform := b, last := some lockedStatus }

theorem test_witness_HandleRestored : (part (handledDoor false) (berthIn .aligned)).ready .station .rt ∧
    ((part (handledDoor false) (berthIn .aligned)).door 0).live.handle = false ∧ (handledDoor true).lastClosed = true ∧
    (part (handledDoor true) (berthIn .aligned)).ready .station .rt ∧
    (0 : DoorIx) ∉ (part (handledDoor true) (berthIn .aligned)).rel.pendingMaint ∧
    (part (handledDoor true) (berthIn .aligned)).berth.isMapDoor 0 = true ∧
    ({ part (handledDoor false) (berthIn .movedOpen) with rel := { Release.reset with trainLatch := true } } : State).ready .station .rt ∧
    ({ part (handledDoor false) (berthIn .movedOpen) with rel := { Release.reset with trainLatch := true } } : State).berth.isMapDoor 0 =
      true := by
  unfold State.ready Port.idle; decide +kernel
/-- R137, R98 at RT: the status that the door taken, or kept by PLATFORM, then goes by. -/
theorem test_witness_HandleRestored_supply : (released (part (handledDoor false) (berthIn .aligned))).rel.active = true ∧
    (released (part (handledDoor false) (berthIn .aligned))).ready .station .rt ∧ lockedStatus.code = 0 ∧ lockedStatus.pos = .closed ∧
    lowStatus.pos = .closed ∧ lowStatus.code = 0 ∧ lowStatus.supplyLow = true ∧ ({ lockedStatus with pos := .openEnd } : Status).pos ≠ .closed ∧
    ((part { handledDoor true with last := some lowStatus } (berthIn .aligned)).door 0).live.supply = true := by
  unfold State.ready Port.idle; decide +kernel
theorem test_witness_EmergencyOpened : (part (doorIn .closedLocked) (berthIn .aligned)).ready .station .eo ∧
    (part (doorIn .closedLocked) (berthIn .aligned)).rel.trainLatch = false ∧ BerthState.takesRelease .aligned = true ∧
    BerthState.takesRelease .departing = false ∧ (part (doorIn .closedLocked) (berthIn .departing)).ready .station .eo ∧
    (released (part (doorIn .closedLocked) (berthIn .aligned))).ready .station .eo ∧
    ((part { doorIn .closing with last := some lowStatus } (berthIn .aligned)).door 0).live.supply = true := by
  unfold State.ready Port.idle; decide +kernel
theorem test_witness_EmergencyReset :
    (part { handledDoor true with rHandle := false } (berthIn .aligned)).ports.panel.idle ∧ (some true).getD false = true ∧
    (part { handledDoor true with rHandle := false } (berthIn .aligned)).power.esr = false ∧
    ((part { handledDoor true with rHandle := false } (berthIn .aligned)).door 0).rPlatform = true ∧
    (0 : DoorIx) ∉ (part { handledDoor true with rHandle := false } (berthIn .aligned)).rel.pendingMaint ∧
    ((some false).getD true = false ∧ (none : Option Bool).getD State.reset.power.permit = false) ∧
    (State.reset.alive = true ∧ State.reset.ports.panel.idle ∧ State.reset.start.phase = .starting) ∧
    ({ part (doorIn .opened) Berth.reset with power := { Power.reset with esr := true } } : State).power.esr = true := by
  unfold Port.idle; decide +kernel
theorem test_witness_MaintenanceRequested : (part (doorIn .closedLocked) Berth.reset .loc).ready .panel .mq ∧
    (part (doorIn .closedLocked) Berth.reset .loc).grantable 0 = true ∧ (part (doorIn .opened) Berth.reset .loc).grantable 0 = false ∧
    (part (doorIn .opened) Berth.reset .loc).ready .panel .mq ∧
    ({ part (doorIn .opened) Berth.reset .loc with rel := { Release.reset with pendingMaint := [0] } } : State).ready .panel .mc ∧
    ({ part (doorIn .opened) Berth.reset .loc with rel := { Release.reset with pendingMaint := [1, 0] } } : State).ready .panel .mq ∧
    ([1, 0] : List DoorIx)[1]? = some 0 ∧ (0 : DoorIx) ∉ ([1, 0] : List DoorIx).take 1 := by
  unfold State.ready Port.idle; decide +kernel
theorem test_witness_MaintenanceWorked : (part (doorIn .opened .maint) Berth.reset .loc).ready .panel .mo ∧
    (part (doorIn .closedLocked .maint) Berth.reset .loc).ready .panel .tc ∧
    ((part (doorIn .closedLocked .maint) Berth.reset .loc).door 0).live.supply = false ∧
    ((part { doorIn .closedLocked .maint with last := some lowStatus } Berth.reset .loc).door
      0).live.supply = true ∧
    (part (doorIn .closedLocked .maint) Berth.reset .loc).ready .panel .mr ∧
    (part (doorIn .closedLocked .maint) Berth.reset .loc).rel.active = false ∧
    (released (part (doorIn .closedLocked .maint) (berthIn .aligned) .loc)).ready .panel .mr ∧
    (released (part (doorIn .closedLocked .maint) (berthIn .aligned) .loc)).berth.isMapDoor 0 = true ∧
    (0 : DoorIx) ∉ (released (part (doorIn .closedLocked .maint) (berthIn .aligned) .loc)).rel.pendingMaint ∧
    (part (doorIn .fault .isolated) Berth.reset .loc).ready .panel .dr ∧ 1 ≤ entry1.blank := by
  unfold State.ready Port.idle; decide +kernel
theorem test_witness_DoorIsolated : (part (doorIn .closedLocked) Berth.reset).ready .station .isol ∧
    (part (doorIn .unknown .maint) Berth.reset).ready .station .isol ∧ (part (doorIn .fault .isolated) Berth.reset).ready .station .iu ∧
    ({ doorIn .fault .isolated with fault := some .comms } : Door).hardFault = true ∧
    ({ doorIn .fault .isolated with last := some { lockedStatus with handle := true } } : Door).live.handle = true := by
  unfold State.ready Port.idle; decide +kernel

/-- The sensing part with the key at MAINT. -/
def sensingMaint : State := (sensing .done).setAuth { Auth.reset with key := .maint }

theorem test_witness_HeadWithdrawn : sensingMaint.ready .panel .hw ∧ sensingMaint.berth.state.holdsMap = false ∧
    sensingMaint.zone 0 = some zone1 ∧ (sensingMaint.setHead 0 { Head.reset with withdrawn := true, f := 1 }).ready .panel .hj := by
  unfold State.ready Port.idle; decide +kernel

/-- A pass-through to head 1, in hand. -/
def passing : State :=
  { sensingMaint with
    sense := { sensingMaint.sense with scan := { Sense.reset.scan with pt := some { head := 0, frame := [], wait := some 50 } } }
    ports := { sensingMaint.ports with panel := { Port.reset with inHand := true, replies := [none] } } }

theorem test_witness_PassThroughExchange : (sensingMaint.setHead 0 { Head.reset with withdrawn := true, f := 1 }).ready .panel .pt ∧
    1 ≤ (List.replicate 16 0#8).length ∧ passing.alive = true ∧ passing.ports.panel.sending = none ∧
    passing.ports.panel.replies = [none] ∧ passing.ports.panel.held = none := by
  unfold State.ready Port.idle; decide +kernel
/-- The same with the line BS held behind it. -/
def passingHeld : State :=
  { passing with ports := { passing.ports with panel := { passing.ports.panel with replies := [none, none], held := some (.record (.bs .panel)) } } }

/-- R174: a line held behind the request, and one more; and the held line taken, with the reply that it has at an idle link. -/
theorem test_witness_PassThroughExchange_held : linkOf (.bs .panel) = some .panel ∧ verbOf (.bs .panel) = some .bs ∧
    formReason (.bs .panel) = none ∧ passing.ports.panel.inHand = true ∧ passing.ports.panel.replies = none :: [] ∧
    passingHeld.alive = true ∧ passingHeld.ports.panel.held = some (.record (.bs .panel)) ∧
    passingHeld.ports.panel.replies = [none, none] ∧ passingHeld.ports.panel.sending = none ∧
    (∃ r, (after (exec (.bs .panel) passingHeld.ptAnswered)).replies .panel r) ∧
    (after (exec (.ka .panel) passingHeld)).ports.panel.replies = [none, none, some (.no "--" .busy)] := by
  refine ⟨by decide, by decide, by decide, by decide +kernel, by decide +kernel, by decide +kernel, by decide +kernel, by decide +kernel,
    by decide +kernel, ⟨_, rfl, rfl⟩, by decide +kernel⟩
theorem test_witness_PortRecords : (part (doorIn .opened) Berth.reset).ready .panel .lm ∧
    (part (doorIn .opened) Berth.reset).ready .panel .wa ∧
    (match (part (doorIn .opened) Berth.reset).watchTarget (.head 12) with | .ok o => o == some (.head 11) | .error _ => false) = true ∧
    (part (doorIn .opened) Berth.reset).ready .panel .lc ∧ (part (doorIn .opened) Berth.reset).secureCurrent ∧
    (withProfiles Berth.reset).ownsEdit (.link .station) ≠ none ∧ (withProfiles Berth.reset).ownsEdit (.link .panel) = none := by
  unfold State.ready Port.idle State.secureCurrent; decide +kernel

/-- The part in CONFIG_FAULT. -/
def faulted : State := { part (doorIn .opened) Berth.reset with start := { StartUp.reset with phase := .configFault } }

theorem test_witness_PortRecords_service : (part (doorIn .opened) Berth.reset .maint).ready .panel .rs ∧ faulted.ready .station .ru ∧
    faulted.start.phase = .configFault ∧ faulted.configuredDoors ≠ [] ∧ ∀ p : ProfileIx, (faulted.profile p).state = .empty := by
  unfold State.ready Port.idle; decide +kernel
/-- A part in service whose train link watches an object. -/
def watching (o : WatchObj) (s : State) : State := s.setPort .train { s.ports.train with watch := some o }

/-- The clauses on every command: a berth, the flag and the latch that change. -/
theorem test_witness_StatusReportsQueued : (part (doorIn .opened) (berthIn .departing)).secureCurrent ∧
    (part (doorIn .opened) (berthIn .departing)).berth ≠ (after (exec (.dp .train) (part (doorIn .opened) (berthIn .departing)))).berth ∧
    (part (doorIn .closedLocked) (berthIn .departing)).secureCurrent ∧
    (part (doorIn .closedLocked) (berthIn .departing)).sec.flag ≠
      (after (exec (.dp .train) (part (doorIn .opened) (berthIn .departing)))).sec.flag ∧
    writesInputs .supervisionExpiry = false ∧
    (watching .secure (part (doorIn .opened) Berth.reset)).secureCurrent ∧
    ((watching .secure (part (doorIn .opened) Berth.reset)).port .train).watch = some .secure ∧
    (part (doorIn .opened) (berthIn .aligned)).ready .train .eo ∧
    (sensingMaint.head 0).withdrawn = false ∧ sensingMaint.ready .panel .hw ∧ (part (doorIn .opened) (berthIn .partialHeld)).ready .train .ac ∧
    zone1.state ≠ .unknown ∧ ((sensing .outstanding).head 0).stale = false ∧ (part (doorIn .opened) (berthIn .aligned)).ready .train .hd ∧
    ({ Auth.reset with stage := .late, supv := some 0 } : Auth).supv.isSome = true ∧
    (part (doorIn .opened) (berthIn .departing)).ready .train .dp ∧ (berthIn .departing).state ≠ .empty ∧
    (part (doorIn .opened) (berthIn .aligned) .loc).auth.effective ≠ .auto := by
  unfold State.ready Port.idle State.secureCurrent; decide +kernel
theorem test_witness_StatusReportsQueued_head : (sensing .outstanding).alive = true ∧ (sensing .outstanding).secureCurrent ∧
    ((sensing .outstanding).head 0).state ≠
      ((after (exec (.headGoodReply (frameReply 0 .dirty 0#64)) (sensing .outstanding))).head 0).state := by
  unfold State.secureCurrent; decide +kernel
/-- Reports on a door: a reply that changes its view or operates the handle, and the records. -/
theorem test_witness_DoorReportsQueued :
    (0 : DoorIx) ∉ (polling (part (doorIn .closing) (berthIn .aligned))).rel.pendingMaint ∧
    (doorIn .closing).viewSame (doorIn .closedLocked) = false ∧ ((polling (part (doorIn .closing) (berthIn .aligned))).door 0).live.handle = false ∧
    ((part (doorIn .opened .maint) Berth.reset .loc).door 0).mOrder ≠ .opn ∧
    (part (doorIn .closedLocked) (berthIn .aligned)).ready .train .op ∧ ((berthIn .aligned).map.map MapEntry.j).Nodup ∧
    (0 : DoorIx) ∈ (part (doorIn .closedLocked) (berthIn .aligned)).opDoors 1 ∧
    (part (doorIn .opened) (berthIn .aligned)).ready .train .cl ∧ (0 : DoorIx) ∈ (part (doorIn .opened) (berthIn .aligned)).clDoors 1 ∧
    (∀ i ∈ (part (doorIn .opened) (berthIn .aligned)).clDoors 1,
      ((part (doorIn .opened) (berthIn .aligned)).door i).custody = .emergency →
      ((part (doorIn .opened) (berthIn .aligned)).door i).rPlatform = false) := by
  unfold State.ready Port.idle; decide +kernel
theorem test_witness_DoorReportsQueued_custody :
    (part (doorIn .fault .isolated) Berth.reset .loc).ready .panel .dr ∧ (part (doorIn .fault) Berth.reset).ready .station .isol ∧
    (part (doorIn .fault .isolated) Berth.reset).ready .station .dx ∧ (doorIn .fault .isolated).custodySame Door.reset = false ∧
    (released (part (doorIn .closedLocked .maint) (berthIn .departing) .loc)).ready .panel .mr ∧
    ({ part { handledDoor true with rHandle := false } (berthIn .aligned) with
        power := { Power.reset with permit := true } } : State).ready .panel .er := by
  unfold State.ready Port.idle; decide +kernel
theorem test_witness_StatusReportsQueued_watch : writesInputs (.dp .train) = false ∧
    (watching .berth (part (doorIn .opened) (berthIn .departing))).alive = true ∧
    ((watching .berth (part (doorIn .opened) (berthIn .departing))).port .panel).inHand = false ∧
    ((watching .berth (part (doorIn .opened) (berthIn .departing))).port .train).watch = some .berth ∧
    (watching .berth (part (doorIn .opened) (berthIn .departing))).fullF .train .berth ≠
      (after (exec (.dp .train) (watching .berth (part (doorIn .opened) (berthIn .departing))))).fullF .train .berth := by decide +kernel
theorem test_witness_RangingTaken : (part (doorIn .opened) Berth.reset).alive = true ∧
    (part (doorIn .opened) Berth.reset).start.phase ≠ .starting ∧
    ((withProfiles (berthIn .aligned)).setTrk { Tracker.reset with loss := some 0, berth := berthIn .aligned }).trk.loss.isSome = true ∧
    ({ Sensor.reset with silence := some 0 } : Sensor).silence.isSome = true ∧
    ((part (doorIn .opened) Berth.reset).trk.sensor .a).part = [] ∧ ((part (doorIn .opened) Berth.reset).trk.sensor .a).gap = 0 ∧
    ((okSampleBytes 7).take 5).head? = some 0xA5#8 ∧ ((okSampleBytes 7).take 5).length < 6 ∧ 0xA5#8 ∉ ([0xA4#8] : List Byte) ∧
    (after (exec (.rangingSample .a ((okSampleBytes 7).take 5)) (part (doorIn .opened) Berth.reset))).sec =
      (part (doorIn .opened) Berth.reset).sec ∧
    (after (exec (.rangingSample .a ((okSampleBytes 7).take 5)) (part (doorIn .opened) Berth.reset))).ports =
      (part (doorIn .opened) Berth.reset).ports := by decide +kernel
/-- R29, R139: a sample that enters APPROACH, with and without an announced train, and a loss of the target under release. -/
theorem test_witness_RangingTaken_entry : (withProfiles Berth.reset).berth.state = .empty ∧
    (after (exec (.rangingSample .a (okSampleBytes 5000)) (withProfiles Berth.reset))).trk.trackT = some 5000 ∧
    5000 ≤ (withProfiles Berth.reset).settings.approach ∧ (withProfiles Berth.reset).trk.expected = none ∧
    ({ Tracker.reset with expected := some { profile := 0, trainId := some 9, r := none, cuts := [2] } } : Tracker).expected =
      some { profile := 0, trainId := some 9, r := none, cuts := [2] } ∧
    (released (part (doorIn .opening) (berthIn .departing))).rel.active = true ∧ BerthState.holdsMap .departing = true ∧
    ({ doorIn .opening .emergency with rPlatform := true } : Door).platformOnly = true := by decide +kernel
theorem test_witness_DoorReplyTaken : (polling (part (doorIn .closing) (berthIn .aligned))).alive = true ∧
    (polling (part (doorIn .closing) (berthIn .aligned))).bus.poll = some ⟨0, [], 12, false⟩ ∧
    ((polling (part (doorIn .closing) (berthIn .aligned))).door 0).entry = some entry1 ∧
    ((polling (part (doorIn .closing) (berthIn .aligned))).door 0).live.handle = false ∧
    ((polling (part (doorIn .closing) (berthIn .aligned))).door 0).misses ≠ 3 ∧
    (polling (part (doorIn .closing) (berthIn .aligned))).anyZone .gap 0 (· == .occupied) = false ∧
    entry1.blank ≤ satInc 8 2 ∧ satInc 8 1 < entry1.blank ∧ (2 : Nat) < entry1.retry ∧ entry1.retry ≤ 3 := by decide +kernel
/-- The egress reopen of a closing door (an OCCUPIED GAP zone), and each custody. -/
theorem test_witness_DoorReplyTaken_custody :
    ((polling (part (doorIn .closing) (berthIn .aligned))).setZone 0 (some { zone1 with state := .occupied })).anyZone .gap 0
      (· == .occupied) = true ∧
    (part (doorIn .closing) (berthIn .aligned)).auth.effective = .auto ∧ 0 < (part (doorIn .closing) (berthIn .aligned)).settings.egress ∧
    (part (doorIn .closing) (berthIn .aligned)).berth.isMapDoor 0 = true ∧ (0 : DoorIx) ∉ (berthIn .aligned).egressUsed ∧
    ((polling (part { doorIn .opened .maint with misses := 0 } Berth.reset)).door 0).custody = .maint ∧
    ((polling (part (doorIn .opened .isolated) Berth.reset)).door 0).custody = .isolated ∧
    ((polling (part (handledDoor false) (berthIn .aligned))).door 0).rHandle = true ∧
    ((polling (part { handledDoor true with rHandle := false, state := .opening } (berthIn .aligned))).door 0).rPlatform = true ∧
    resolve lockedStatus = .closedLocked := by decide +kernel
theorem test_witness_DoorMissTaken : (polling (part { doorIn .opened with misses := 2 } Berth.reset)).alive = true ∧
    judgePoll 0 .missing = .miss .missing ∧ judgePoll 0 (.frame (statusFrame 1 lockedStatus)) = .miss .wrongAddress ∧
    ((polling (part { doorIn .opened with misses := 2 } Berth.reset)).door 0).misses = 2 ∧
    ({ part (doorIn .opened) Berth.reset with bus := ⟨[0], some ⟨1, [], 12, true⟩⟩ } : State).alive = true ∧
    ((part (doorIn .opened) Berth.reset).door 0).entry = some entry1 ∧ (part Door.reset Berth.reset).configuredDoors = [] := by
  decide +kernel
theorem test_witness_DoorTimersExpire : (part { doorIn .warning with warn := some 0 } Berth.reset).alive = true ∧
    ((part { doorIn .warning with warn := some 0, maxHold := some 0 } Berth.reset).door 0).warn.isSome = true ∧
    ((part { doorIn .warning with warn := some 0, maxHold := some 0 } Berth.reset).door 0).warnHeld = false ∧
    ((part { doorIn .warning with warn := some 0, maxHold := some 0 } Berth.reset).door 0).live.supply = false ∧
    ((part { doorIn .warning with warn := some 0, last := some lowStatus } Berth.reset).door 0).live.supply = true ∧
    ((part { doorIn .paused with pause := some 0 } Berth.reset).door 0).pause.isSome = true ∧
    ((part { doorIn .opening with timeout := some 0 } Berth.reset).door 0).timeout.isSome = true ∧
    ((part { doorIn .closing with timeout := some 0, lock := some 0 } Berth.reset).door 0).lock.isSome = true := by decide +kernel

/-- Door 1 under test in a phase. -/
def testedDoor (ph : TestPhase) : Door :=
  { doorIn .opening .maint with testPhase := ph, test := some { timer := 0, elapsed := 900, lock := some 0, openTime := none, closeTime := none, peak := 7 } }

theorem test_witness_TestTimersExpire : (part (testedDoor .opening) Berth.reset).alive = true ∧
    ((part (testedDoor .opening) Berth.reset).door 0).testPhase = .opening ∧ ((part (testedDoor .dwell) Berth.reset).door 0).live.supply = false ∧
    ((part { testedDoor .dwell with last := some lowStatus } Berth.reset).door 0).live.supply = true ∧
    ((part (testedDoor .closing) Berth.reset).door 0).test =
      some { timer := 0, elapsed := 900, lock := some 0, openTime := none, closeTime := none, peak := 7 } := by decide +kernel
/-- The phases of a test that a reply ends or moves on. -/
theorem test_witness_DoorReplyTaken_test : ((polling (part (testedDoor .opening) Berth.reset)).door 0).testPhase = .opening ∧
    ((polling (part (testedDoor .dwell) Berth.reset)).door 0).testPhase = .dwell ∧
    ((polling (part (testedDoor .closing) Berth.reset)).door 0).testPhase = .closing ∧
    ((polling (part (testedDoor .closing) Berth.reset)).door 0).custody = .maint ∧
    (0 : DoorIx) ∉ (polling (part (testedDoor .closing) Berth.reset)).rel.pendingMaint := by decide +kernel
/-- A head reply that makes zone 1 OCCUPIED: one hit short of it, and enough cells. -/
theorem test_witness_EgressReadiness_frame : zone1.cfg.names 0 = true ∧ zone1.state ≠ .occupied ∧
    (({ zone1 with hits := 1 }.derive (((sensing .outstanding).head 0).replied .ok 0xFF#64)).evaluate 0xFF#64
      (sensing .outstanding).gapDepth).state = .occupied := by decide +kernel
theorem test_witness_EgressReadiness :
    (part { doorIn .closedLocked with lockedSince := some 9999 } (berthIn .aligned)).egressReady 0 = true ∧
    (part { doorIn .closedLocked with lockedSince := some 10000 } (berthIn .aligned)).egressReady 0 = false := by decide +kernel
theorem test_witness_SensorBusWorked : (sensing .done).alive = true ∧ (sensing .done).start.phase ≠ .starting ∧
    (sensing .done).sense.scan.pt = none ∧ (sensing .done).nextSlot = some (0, 1) ∧
    (sensing .outstanding).sense.scan.slot = some { head := 0, frame := frameRequest 0, left := 8, reply := .outstanding, live := true } ∧
    ((sensing .outstanding).head 0).visited = true ∧ ((sensing .outstanding).head 0).age.isSome = true ∧
    ((sensing .outstanding).head 0).stale = false ∧ (sensing .outstanding).zone 0 = some zone1 := by decide +kernel
/-- The sensing part with zone 1 in front of door 1, which is in WARNING. -/
def warned (st : ZoneState) : State :=
  let s := (sensing .outstanding).setZone 0 (some { zone1 with cfg := { zone1.cfg with kind := .doorFront }, state := st })
  s.setDoor 0 { doorIn .warning with warn := some 7, maxHold := some 9, warnHeld := s.warningHeld 0 }

/-- R92: a miss that makes the zone UNKNOWN holds the timer at WARN; a reply that clears it lets the timer go on. -/
theorem test_witness_SensorBusWorked_warning : ((warned .clear).door 0).warnHeld = (warned .clear).warningHeld 0 ∧
    (warned .clear).warningHeld 0 = false ∧ (warned .unknown).warningHeld 0 = true ∧
    ((after (exec (.frameAgeExpiry 1) (warned .clear))).door 0).warn = some (warned .clear).settings.warn ∧
    ((after (exec (.frameAgeExpiry 1) (warned .clear))).door 0).warnHeld = true := by decide +kernel
theorem test_witness_InputsFollowed : (part (doorIn .opened) (berthIn .aligned)).alive = true ∧
    (part (doorIn .opened) (berthIn .aligned)).power.auto ≠ false ∧ (part (doorIn .opened) (berthIn .aligned)).power.esr ≠ true ∧
    (part (doorIn .opened) (berthIn .aligned)).power.esr = false ∧
    ({ Release.reset with esrTimer := some 0 } : Release).esrTimer.isSome = true ∧
    ({ Auth.reset with supv := some 0, stage := .late } : Auth).supv.isSome = true := by decide +kernel
theorem test_witness_CharactersTaken : (part (doorIn .opened) Berth.reset).alive = true ∧ 0x41#8 ≠ 0x0A#8 ∧ 0x41#8 ≠ 0x0D#8 ∧
    (List.replicate 119 'A').length < 120 ∧ (List.replicate 120 'A').length = 120 ∧
    ({ Port.reset with lineTimer := some 0 } : Port).lineTimer.isSome = true ∧ ({ Port.reset with discarding := true } : Port).replies = [] := by
  decide +kernel
/-- R173: the CR of a line that is no record; R171: a line with a broken character. -/
theorem test_witness_CharactersTaken_bad : parseLine .train "DP 1".toList = .bad "DP" .badForm ∧ "DP 1".toList ≠ [] ∧
    parseLine .train ['D', 'P', Char.ofNat 0] = .bad "--" .unknown ∧ parseLine .train ['O', 'P', ' ', Char.ofNat 0] = .bad "OP" .badForm ∧
    (part (doorIn .opened) Berth.reset).ports.train.idle := by
  unfold Port.idle; decide +kernel
theorem test_witness_LineEnds :
    ((part (doorIn .opened) Berth.reset).setPort .train { Port.reset with sending := some .loss, replies := [some (.no "OP" .busy)] }).secureCurrent ∧
    ((part (doorIn .opened) Berth.reset).setPort .train { Port.reset with sending := some .loss, loss := true }).secureCurrent ∧
    ((part (doorIn .opened) Berth.reset).setPort .train { Port.reset with sending := some .loss, queue := [⟨.mark, some 1, []⟩] }).secureCurrent := by
  unfold State.secureCurrent; decide +kernel
theorem test_witness_DeviceReset :
    ({ part (doorIn .opened) Berth.reset with power := { Power.reset with resetPin := true } } : State).secureCurrent ∧
    ((part (doorIn .opened) Berth.reset).setPort .panel { Port.reset with sending := some (.reply (.ok .rs [])) }).alive = true := by
  unfold State.secureCurrent; decide +kernel

/-- The part in STARTING with a script. -/
def scripted (text : String) : State :=
  { State.reset with start := { StartUp.reset with mem := memLoad 0 (text.toList.map fun c => BitVec.ofNat 8 c.toNat) [] } }

theorem test_witness_ScriptRead : (scripted "TS WARN 3000\r").alive = true ∧ (scripted "TS WARN 3000\r").power.scriptPresent = true ∧
    readScript (scripted "TS WARN 3000\r").start.mem 16384 0 [] = .line "TS WARN 3000".toList 13 ∧
    parseLine .station "TS WARN 3000".toList = .record (.ts .station (.is .warn) (some 3000)) ∧
    gate .script .ts (scripted "TS WARN 3000\r") = none ∧
    (match runRecord .script (.ts .station (.is .warn) (some 3000)) (scripted "TS WARN 3000\r") with
      | .ok _ fs => fs == ["WARN", "3000", "MAXHOLD", "8000"] | .no _ => false | .wait _ => false) = true ∧
    (match scriptTake (parseLine .station "XX".toList) (scripted "XX\r") with | .error why => why == .unknown | .ok _ => false) = true ∧
    readScript (scripted "\r").start.mem 16384 0 [] = .clean 1 ∧ (scripted "\r").ownsEdit .script = none ∧
    readScript (scripted "TS").start.mem 16384 0 [] = .broken 3 := by decide +kernel

/-- The part in STARTING with a script that ends at the last address, read up to it, and with an edit by the script. -/
def scriptedLast (text : String) (editing : Bool) : State :=
  let s := { State.reset with
    start := { StartUp.reset with
      pos := 16384 - text.length
      mem := memLoad (16384 - text.length) (text.toList.map fun c => BitVec.ofNat 8 c.toNat) [] } }
  if editing then { s with cfg := { s.cfg with edit := some { owner := .script, profile := 1 } } } else s

theorem test_witness_ScriptRead_last :
    readScript (scriptedLast "TS WARN 3000\r" false).start.mem 13 16371 [] = .line "TS WARN 3000".toList 16384 ∧
    (scriptedLast "TS WARN 3000\r" false).start.pos = 16371 ∧ (scriptedLast "TS WARN 3000\r" true).ownsEdit .script = some 1 ∧
    readScript (scriptedLast "\r" true).start.mem 1 16383 [] = .clean 16384 ∧
    gate .script .ts (scriptedLast "TS WARN 3000\r" true) = none ∧
    readScript (scriptedLast (String.ofList (List.replicate 121 'A')) false).start.mem 121 16263 [] = .long 16384 ∧
    readScript (scriptedLast (String.ofList (List.replicate 120 'A')) false).start.mem 120 16264 [] = .broken 16384 := by
  decide +kernel

end Sys2Proof.Tests
end

section
/-! SUPPORT. A record taken or refused on an idle link, from its owning block to the line that the link then sends: which blocks and
which port inputs stay as they were, so that a proof about one record speaks of its owning block alone. -/

namespace Sys2Proof.Machine

/-! Frames compose. -/

theorem State.sameBut.refl (bs : List Block) (s : State) : s.sameBut bs s :=
  ⟨rfl, rfl, fun _ => rfl, fun _ => rfl, fun _ => rfl, fun _ => rfl, fun _ => rfl, fun _ => rfl, fun _ => rfl, fun _ => rfl, fun _ => rfl⟩

/-- What leaves all but the blocks of bs and then all but those of cs leaves every block that is in neither list. -/
theorem State.sameBut.trans {bs cs ds : List Block} {s t u : State} (h : s.sameBut bs t) (k : t.sameBut cs u)
    (hb : bs ⊆ ds) (hc : cs ⊆ ds) : s.sameBut ds u := by
  obtain ⟨hpend, hfree, hpower, hstart, hcfg, hdoors, htrk, hbus, hsense, hrel, hauth⟩ := h
  obtain ⟨kpend, kfree, kpower, kstart, kcfg, kdoors, ktrk, kbus, ksense, krel, kauth⟩ := k
  have keep {b : Block} {α : Type} {x y z : α} (hxy : b ∉ bs → y = x) (hyz : b ∉ cs → z = y) (hd : b ∉ ds) : z = x :=
    (hyz fun m => hd (hc m)).trans (hxy fun m => hd (hb m))
  exact ⟨kpend.trans hpend, kfree.trans hfree, keep hpower kpower, keep hstart kstart, keep hcfg kcfg, keep hdoors kdoors,
    keep htrk ktrk, keep hbus kbus, keep hsense ksense, keep hrel krel, keep hauth kauth⟩

theorem State.sameBut.auth {bs : List Block} {s t : State} (h : s.sameBut bs t) (hb : Block.auth ∉ bs) : t.auth = s.auth := by
  obtain ⟨-, -, -, -, -, -, -, -, -, -, hauth⟩ := h
  exact hauth hb

theorem State.sameBut.cfg {bs : List Block} {s t : State} (h : s.sameBut bs t) (hb : Block.cfg ∉ bs) : t.cfg = s.cfg := by
  obtain ⟨-, -, -, -, hcfg, -, -, -, -, -, -⟩ := h
  exact hcfg hb

theorem State.sameBut.trk {bs : List Block} {s t : State} (h : s.sameBut bs t) (hb : Block.trk ∉ bs) : t.trk = s.trk := by
  obtain ⟨-, -, -, -, -, -, htrk, -, -, -, -⟩ := h
  exact htrk hb

theorem PortKept.inputSame {p q : Port} (h : PortKept p q) : p.inputSame q :=
  ⟨h.buf, h.discarding, h.lineTimer, h.inHand, h.held, h.mask, h.watch⟩

theorem Port.inputSame.trans {p q r : Port} (h : p.inputSame q) (k : q.inputSame r) : p.inputSame r := by
  obtain ⟨hbuf, hdis, htimer, hhand, hheld, hmask, hwatch⟩ := h
  obtain ⟨kbuf, kdis, ktimer, khand, kheld, kmask, kwatch⟩ := k
  exact ⟨kbuf.trans hbuf, kdis.trans hdis, ktimer.trans htimer, khand.trans hhand, kheld.trans hheld, kmask.trans hmask,
    kwatch.trans hwatch⟩

theorem State.inputsSame.trans {s t u : State} (h : s.inputsSame t) (k : t.inputsSame u) : s.inputsSame u :=
  fun l => (h l).trans (k l)

theorem Keeps.inputsSame {s t : State} (h : Keeps s t) : s.inputsSame t := fun l => (h.ports l).inputSame

/-- An update of one port that keeps the input side of that port. -/
theorem setPort_inputsSame (l : Link) (p : Port) (s : State) (h : (s.port l).inputSame p) : s.inputsSame (s.setPort l p) := by
  intro k
  by_cases e : k = l
  · subst e; rw [setPort_port_same]; exact h
  · rw [setPort_port_ne s p e]; exact (PortKept.refl _).inputSame

/-! Up to the owning block: the place of the reply in line order, and supervision. -/

theorem presetPermit_eq_self {i : Instr} (hp : ∀ k b, i ≠ .er k (some b)) (s : State) : presetPermit i s = s := by
  unfold presetPermit; split
  · exact absurd rfl (hp _ _)
  · rfl

theorem superviseRecord_sameBut (s : State) : s.sameBut [.auth] (superviseRecord s) :=
  ⟨rfl, rfl, fun _ => rfl, fun _ => rfl, fun _ => rfl, fun _ => rfl, fun _ => rfl, fun _ => rfl, fun _ => rfl, fun _ => rfl,
   fun h => absurd (List.mem_singleton.mpr rfl) h⟩

/-- A record other than an ER with a permit level reaches its owning block with every block but the authority unit as it was. -/
theorem heard_sameBut (l : Link) {i : Instr} (s : State) (hp : ∀ k b, i ≠ .er k (some b)) : s.sameBut [.auth] (heard l i s) := by
  have hport (p : Port) : s.sameBut [.auth] (s.setPort l p) := State.sameBut.refl [.auth] s
  unfold heard
  dsimp only
  rw [presetPermit_eq_self hp]
  split
  · exact (hport _).trans (superviseRecord_sameBut _) (List.Subset.refl _) (List.Subset.refl _)
  · exact hport _

/-- R164: a record of the train link has been heard by supervision, one of another link has not. -/
theorem heard_auth (l : Link) {i : Instr} (s : State) (hp : ∀ k b, i ≠ .er k (some b)) : (heard l i s).auth = s.heardAuth l := by
  unfold heard
  dsimp only
  rw [presetPermit_eq_self hp]
  cases l <;> rfl

theorem heard_inputsSame (l : Link) (i : Instr) (s : State) : s.inputsSame (heard l i s) := by
  have hdue : s.inputsSame (presetPermit i (s.setPort l { s.port l with replies := (s.port l).replies ++ [none] })) := by
    intro k
    rw [presetPermit_port]
    exact setPort_inputsSame l { s.port l with replies := (s.port l).replies ++ [none] } s
      ⟨rfl, rfl, rfl, rfl, rfl, rfl, rfl⟩ k
  unfold heard
  dsimp only
  split
  · exact hdue.trans (superviseRecord_keeps _).inputsSame
  · exact hdue

/-! From the owning block on: the reply, the status, the watches and the next line. -/

theorem startLine_inputSame (p : Port) : p.inputSame p.startLine := by
  unfold Port.startLine
  split
  · exact (PortKept.refl p).inputSame
  · split
    · exact ⟨rfl, rfl, rfl, rfl, rfl, rfl, rfl⟩
    · split
      · exact ⟨rfl, rfl, rfl, rfl, rfl, rfl, rfl⟩
      · split
        · exact (PortKept.refl p).inputSame
        · exact ⟨rfl, rfl, rfl, rfl, rfl, rfl, rfl⟩

theorem finish_inputsSame (s0 s : State) : s.inputsSame (finish s0 s) := by
  intro l
  rw [finish_port]
  exact (watchPort_kept l s0 s (s.port l)).inputSame.trans (startLine_inputSame _)

/-- The state in which a record of link l ends that was answered r and left state u, where the event began in state s. -/
def answered (l : Link) (r : Reply) (s u : State) : State := finish s (reeval (answerOn l r u))

theorem answered_sameBut (l : Link) (r : Reply) (s u : State) : u.sameBut [] (answered l r s u) := State.sameBut.refl [] u

theorem answered_inputsSame (l : Link) (r : Reply) (s u : State) : u.inputsSame (answered l r s u) := by
  have hanswer : u.inputsSame (answerOn l r u) := setPort_inputsSame l _ u ⟨rfl, rfl, rfl, rfl, rfl, rfl, rfl⟩
  exact (hanswer.trans (reeval_keeps _).inputsSame).trans (finish_inputsSame s _)

/-- The reply of a record on an idle link is the line that the link then sends. -/
theorem answered_replies {l : Link} {i : Instr} {s u : State} (r : Reply) (hi : (s.port l).idle) (hk : KeepsLines (heard l i s) u) :
    (answered l r s u).replies l r := by
  have hu : Lines { s.port l with replies := (s.port l).replies ++ [none] } (u.port l) := (heard_lines l i s).trans (hk.lines l)
  have hr : Lines ((answerOn l r u).port l) ((reeval (answerOn l r u)).port l) := ((reeval_keeps _).ports l).toLines
  obtain ⟨hsending, hreplies, -, -⟩ := hi
  refine finish_replies _ _ _ _ ?_ ?_
  · rw [hr.sending, answerOn, setPort_port_same]
    exact hu.sending.trans hsending
  · rw [hr.replies, answerOn, setPort_port_same]
    change fillFirst r (u.port l).replies = _
    rw [hu.replies, hreplies]
    rfl

/-! A record taken, and a record refused. -/

section
variable {l : Link} {v : Verb} {i : Instr} {s u : State}

/-- A record that its owning block takes, and that touches no watch: its reply is sent, the state is the one that the owning block
leaves, and the frame is that of the owning block. -/
theorem deliver_taken {fs : List String} (bs : List Block) (hr : s.ready l v) (hf : formReason i = none) (hv : verbOf i = some v)
    (hp : ∀ k b, i ≠ .er k (some b)) (hw : ∀ t, watchEntry i t = t) (hk : (ownBlock (.link l) i (heard l i s)).Kept (heard l i s))
    (ho : ownBlock (.link l) i (heard l i s) = .ok u fs) (hu : (heard l i s).sameBut bs u) :
    ∃ t, deliver l v i s = .next t ∧ t.replies l (.ok v fs) ∧ u.sameBut [] t ∧ s.sameButHeard l bs t ∧ s.inputsSame t := by
  obtain ⟨halive, hidle, hgate⟩ := hr
  rw [ho] at hk
  obtain ⟨hnext, hreply⟩ := deliver_ok halive hidle hf hv ((gate_heard l v i s hp).trans hgate) ho
  rw [hw] at hnext hreply
  have hend : u.sameBut [] (answered l (.ok v fs) s u) := answered_sameBut _ _ _ _
  have hframe : (heard l i s).sameBut bs (answered l (.ok v fs) s u) := hu.trans hend (List.Subset.refl bs) (List.nil_subset bs)
  refine ⟨_, hnext, hreply, hend, ⟨?_, fun hb => (hframe.auth hb).trans (heard_auth l s hp)⟩, ?_⟩
  · exact (heard_sameBut l s hp).trans hframe (by simp) (by simp)
  · exact ((heard_inputsSame l i s).trans (Keeps.inputsSame hk)).trans (answered_inputsSame _ _ _ _)

/-- A record that its owning block refuses: its refusal is sent, and nothing but supervision changes (R175). -/
theorem deliver_refused {why : Reason} (hr : s.ready l v) (hf : formReason i = none) (hv : verbOf i = some v)
    (hp : ∀ k b, i ≠ .er k (some b)) (ho : ownBlock (.link l) i (heard l i s) = .no why) :
    ∃ t, deliver l v i s = .next t ∧ t.replies l (.no v.text why) ∧ s.sameButHeard l [] t ∧ s.inputsSame t := by
  obtain ⟨halive, hidle, hgate⟩ := hr
  have hend : (heard l i s).sameBut [] (answered l (.no v.text why) s (heard l i s)) := answered_sameBut _ _ _ _
  refine ⟨_, deliver_no halive hidle hf hv ((gate_heard l v i s hp).trans hgate) ho,
    answered_replies _ hidle (Keeps.refl _).toLines, ⟨?_, fun hb => (hend.auth hb).trans (heard_auth l s hp)⟩, ?_⟩
  · exact (heard_sameBut l s hp).trans hend (List.Subset.refl _) (List.nil_subset _)
  · exact (heard_inputsSame l i s).trans (answered_inputsSame _ _ _ _)

end

end Sys2Proof.Machine
end

section
/-! SUPPORT. The timing settings: what TS stores and answers (R15, R16). -/

namespace Sys2Proof.Machine

/-! What a store of one setting does to each setting. -/

@[simp] theorem Settings.get_put_same (c : Settings) (n : Setting) (v : Nat) : (c.put n v).get n = v := by cases n <;> rfl

/-- A store touches no other setting, but that WARN raises MAXHOLD. -/
theorem Settings.get_put_ne (c : Settings) {n m : Setting} (v : Nat) (h : m ≠ n) (hw : ¬(n = .warn ∧ m = .maxhold)) :
    (c.put n v).get m = c.get m := by
  cases n with
  | warn =>
    cases m with
    | warn => exact absurd rfl h
    | maxhold => exact absurd ⟨rfl, rfl⟩ hw
    | _ => rfl
  | _ => cases m <;> first | rfl | exact absurd rfl h

@[simp] theorem Settings.put_warn_warn (c : Settings) (v : Nat) : (c.put .warn v).warn = v := rfl
@[simp] theorem Settings.put_warn_maxhold (c : Settings) (v : Nat) : (c.put .warn v).maxhold = max c.maxhold v := rfl
@[simp] theorem Settings.put_maxhold_warn (c : Settings) (v : Nat) : (c.put .maxhold v).warn = c.warn := rfl
@[simp] theorem Settings.put_maxhold_maxhold (c : Settings) (v : Nat) : (c.put .maxhold v).maxhold = v := rfl

theorem settingValue_eq (c : Settings) (n : Setting) (v : Option Int) :
    settingValue c n v = (clamp (settingRange c n).1 (settingRange c n).2 (v.getD (settingDefault n))).toNat := rfl

/-- MAXHOLD is stored not below the WARN in force, where that WARN is within the range of MAXHOLD (R16). -/
theorem warn_le_settingValue_maxhold (c : Settings) (v : Option Int) (h : c.warn ≤ 10000) : c.warn ≤ settingValue c .maxhold v := by
  rw [settingValue_eq]
  simp only [settingRange, clamp]
  omega

/-! The record. -/

theorem doTs_is (n : Setting) (v : Option Int) (s : State) :
    doTs (.is n) v s = .ok { s with cfg := { s.cfg with settings := s.settings.put n (settingValue s.settings n v) } }
      ((s.settings.put n (settingValue s.settings n v)).replyF n) := rfl

/-- A change of the configuration store alone. -/
theorem setCfg_sameBut (s : State) (c : Store) : s.sameBut [.cfg] { s with cfg := c } :=
  ⟨rfl, rfl, fun _ => rfl, fun _ => rfl, fun h => absurd (List.mem_singleton.mpr rfl) h, fun _ => rfl, fun _ => rfl, fun _ => rfl,
   fun _ => rfl, fun _ => rfl, fun _ => rfl⟩

/-- TS on a link that takes it stores one setting, answers with the settings as they then stand, and changes nothing else. -/
theorem exec_ts {l : Link} {s : State} (hr : s.ready l .ts) (n : Setting) (v : Option Int) :
    ∃ t, exec (.ts l (.is n) v) s = .next t ∧ t.settings = s.settings.put n (settingValue s.settings n v) ∧
      t.replies l (.ok .ts (t.settings.replyF n)) ∧ t.cfg = { s.cfg with settings := t.settings } ∧
      s.sameButHeard l [.cfg] t ∧ s.inputsSame t := by
  have hp : ∀ k b, Instr.ts l (.is n) v ≠ .er k (some b) := by intro k b h; cases h
  have hcfg : (heard l (.ts l (.is n) v) s).cfg = s.cfg := (heard_sameBut l s hp).cfg (by decide)
  obtain ⟨t, hnext, hreply, hu, hframe, hin⟩ := deliver_taken [.cfg] hr rfl rfl hp (fun _ => rfl) (doTs_kept (.is n) v _)
    (doTs_is n v _) (setCfg_sameBut _ _)
  rw [settings_congr hcfg] at hreply
  have ht : t.cfg = { s.cfg with settings := s.settings.put n (settingValue s.settings n v) } := by
    rw [hu.cfg (by decide), settings_congr hcfg, hcfg]
  have hset : t.settings = s.settings.put n (settingValue s.settings n v) := by rw [State.settings, ht]
  exact ⟨t, hnext, hset, hset ▸ hreply, hset ▸ ht, hframe, hin⟩

/-- Settles O23: each clause reads what TS stores (`exec_ts`) at a setting. -/
theorem timingSettingStored : Obligations.TimingSettingStored := by
  unfold Obligations.TimingSettingStored
  intro l s hr
  refine ⟨fun n v => ?_, fun v => ?_, fun v => ?_⟩
  · obtain ⟨t, hnext, hset, hrest⟩ := exec_ts hr n v
    refine ⟨t, hnext, ?_, fun m hm hw => ?_, hrest⟩
    · rw [hset, Settings.get_put_same, settingValue_eq]
    · rw [hset, Settings.get_put_ne _ _ hm hw]
  · obtain ⟨t, hnext, hset, hreply, -⟩ := exec_ts hr .warn v
    have hwarn : t.settings.warn = settingValue s.settings .warn v := by rw [hset, Settings.put_warn_warn]
    refine ⟨t, hnext, hwarn, ?_, hreply⟩
    rw [hwarn, hset, Settings.put_warn_maxhold]
  · obtain ⟨t, hnext, hset, hreply, -⟩ := exec_ts hr .maxhold v
    have hmax : t.settings.maxhold = settingValue s.settings .maxhold v := by rw [hset, Settings.put_maxhold_maxhold]
    refine ⟨t, hnext, ?_, hmax, fun hw => ?_, hreply⟩
    · rw [hset, Settings.put_maxhold_warn]
    · rw [hmax]
      exact warn_le_settingValue_maxhold s.settings v hw

end Sys2Proof.Machine
end

section
/-! SUPPORT. Profiles: the order of the checks of a profile, what PE makes of it (R12), and what PX erases (R13). -/

namespace Sys2Proof.Machine

/-! The checks of R12, one by one. -/

/-- No entry fails a check. -/
theorem firstBad_eq_none_iff (p : TrainDoor → Bool) (ds : List TrainDoor) : firstBad p ds = none ↔ ∀ d ∈ ds, p d = false := by
  simp [firstBad, List.findIdx?_eq_none_iff]

/-- The first entry that fails a check, counted from 1. -/
theorem firstBad_eq_some_iff (p : TrainDoor → Bool) (ds : List TrainDoor) (k : Nat) :
    firstBad p ds = some k ↔
      ∃ n d, k = n + 1 ∧ ds[n]? = some d ∧ p d = true ∧ ∀ m x, m < n → ds[m]? = some x → p x = false := by
  simp only [firstBad, Option.map_eq_some_iff, List.findIdx?_eq_some_iff_getElem]
  constructor
  · rintro ⟨n, ⟨hn, hbad, hbefore⟩, rfl⟩
    refine ⟨n, ds[n], rfl, List.getElem?_eq_getElem hn, hbad, fun m x hm hx => ?_⟩
    obtain ⟨hlt, rfl⟩ := List.getElem?_eq_some_iff.mp hx
    simpa using hbefore m hm
  · rintro ⟨n, d, rfl, hd, hbad, hbefore⟩
    obtain ⟨hn, rfl⟩ := List.getElem?_eq_some_iff.mp hd
    exact ⟨n, ⟨hn, hbad, fun m hm => by simpa using hbefore m _ hm (List.getElem?_eq_getElem (Nat.lt_trans hm hn))⟩, rfl⟩

/-- ORDER passes where every train door ends before the next begins. -/
theorem badOrder_eq_none_iff (k : Nat) (ds : List TrainDoor) :
    badOrder k ds = none ↔ ∀ n a b, ds[n]? = some a → ds[n + 1]? = some b → a.tf < b.tn := by
  induction k, ds using badOrder.induct with
  | case1 k a b rest h =>
    have hbad : badOrder k (a :: b :: rest) ≠ none := by simp [badOrder, h]
    exact ⟨fun hn => absurd hn hbad, fun hall => absurd (hall 0 a b rfl rfl) (by omega)⟩
  | case2 k a b rest h ih =>
    rw [badOrder, if_neg h, ih]
    constructor
    · intro hall n x y hx hy
      cases n with
      | zero =>
        obtain rfl : a = x := by simpa using hx
        obtain rfl : b = y := by simpa using hy
        omega
      | succ n => exact hall n x y hx hy
    · exact fun hall n x y hx hy => hall (n + 1) x y hx hy
  | case3 k d => exact ⟨fun _ n x y _ hy => by simp at hy, fun _ => rfl⟩
  | case4 k => exact ⟨fun _ n x y hx _ => by simp at hx, fun _ => rfl⟩

theorem TrainDoor.widthOk_iff (d : TrainDoor) : d.widthOk = true ↔ d.tn + 600 ≤ d.tf ∧ d.tf ≤ d.tn + 2500 := decide_eq_true_iff

/-! The validation, by the first check that fails. -/

@[simp] theorem validate_nil (f : ProfileFields) : validate f [] = some (.count, none) := rfl

/-- A profile is VALID where it passes every check. -/
theorem validate_eq_none_iff (f : ProfileFields) (ds : List TrainDoor) :
    validate f ds = none ↔ ds ≠ [] ∧ firstBad (fun t => !t.widthOk) ds = none ∧ badOrder 1 ds = none ∧
      firstBad (fun t => decide (f.len < t.tf)) ds = none ∧ f.stop + f.len ≤ 300000 := by
  cases ds with
  | nil => simp
  | cons d ds =>
    unfold validate
    rw [if_neg (by simp)]
    split
    · next hw => simp [hw]
    · next hw =>
      split
      · next ho => simp [ho]
      · next ho =>
        split
        · next hl => simp [hl]
        · next hl => simp [hw, ho, hl]

/-- WIDTH is the reason where a width fails, whatever the later checks find, and it names the first entry that fails. -/
theorem validate_eq_width_iff (f : ProfileFields) (ds : List TrainDoor) (k : Option Nat) :
    validate f ds = some (.width, k) ↔ ∃ j, k = some j ∧ firstBad (fun t => !t.widthOk) ds = some j := by
  cases ds with
  | nil => simp [firstBad]
  | cons d ds =>
    unfold validate
    rw [if_neg (by simp)]
    split
    · next j hw => simp [hw, eq_comm]
    · next hw =>
      have hno : ¬∃ j, k = some j ∧ firstBad (fun t => !t.widthOk) (d :: ds) = some j := by simp [hw]
      refine iff_of_false ?_ hno
      split
      · simp
      · split
        · simp
        · split <;> simp

/-! Profiles in the store. -/

@[simp] theorem setProfile_profile_ne (s : State) {p q : ProfileIx} (x : Profile) (h : q ≠ p) :
    (s.setProfile p x).profile q = s.profile q := by
  have : p.val ≠ q.val := fun e => h (Fin.ext e.symm)
  simp [State.setProfile, State.profile, this]

/-- A profile is read from the configuration store alone. -/
theorem profile_congr {s t : State} (h : t.cfg = s.cfg) (p : ProfileIx) : t.profile p = s.profile p := by simp only [State.profile, h]
theorem ownsEdit_congr {s t : State} (h : t.cfg = s.cfg) (src : Source) : t.ownsEdit src = s.ownsEdit src := by
  simp only [State.ownsEdit, h]
theorem referenced_congr {s t : State} (h : t.trk = s.trk) (p : ProfileIx) : t.referenced p = s.referenced p := by
  simp only [State.referenced, State.berth, h]

/-- The store with profile p as x and the edit as e. -/
def State.storeProfile (s : State) (p : ProfileIx) (x : Profile) (e : Option Edit) : State :=
  { s.setProfile p x with cfg := { (s.setProfile p x).cfg with edit := e } }

section
variable (s : State) (p : ProfileIx) (x : Profile) (e : Option Edit)

@[simp] theorem storeProfile_profile_same : (s.storeProfile p x e).profile p = x := setProfile_profile_same s p x
theorem storeProfile_profile_ne {q : ProfileIx} (h : q ≠ p) : (s.storeProfile p x e).profile q = s.profile q :=
  setProfile_profile_ne s x h
@[simp] theorem storeProfile_edit : (s.storeProfile p x e).cfg.edit = e := rfl
@[simp] theorem storeProfile_settings : (s.storeProfile p x e).settings = s.settings := rfl
@[simp] theorem storeProfile_marks : (s.storeProfile p x e).cfg.marks = s.cfg.marks := rfl
theorem storeProfile_sameBut : s.sameBut [.cfg] (s.storeProfile p x e) := setCfg_sameBut s _

end

/-- A list that changed sends cursors back, and leaves every block. -/
theorem profileListChanged_sameBut (p : ProfileIx) (s : State) : s.sameBut [] (profileListChanged p s) := State.sameBut.refl [] s

/-- A change of one profile and of the open edit, by a record on link l. -/
def State.profileStored (s t : State) (l : Link) (p : ProfileIx) (x : Profile) (e : Option Edit) : Prop :=
  t.profile p = x ∧ t.cfg.edit = e ∧ (∀ q : ProfileIx, q ≠ p → t.profile q = s.profile q) ∧ t.settings = s.settings ∧
  t.cfg.marks = s.cfg.marks ∧ s.sameButHeard l [.cfg] t ∧ s.inputsSame t

/-- A record whose owning block stores a profile and the edit, list cursors apart, does that and sends its reply. -/
theorem deliver_storeProfile {l : Link} {v : Verb} {i : Instr} {s u : State} {fs : List String} {p : ProfileIx} {x : Profile}
    {e : Option Edit} (hr : s.ready l v) (hf : formReason i = none) (hv : verbOf i = some v) (hp : ∀ k b, i ≠ .er k (some b))
    (hw : ∀ t, watchEntry i t = t) (hk : (ownBlock (.link l) i (heard l i s)).Kept (heard l i s))
    (ho : ownBlock (.link l) i (heard l i s) = .ok u fs) (hu : ((heard l i s).storeProfile p x e).sameBut [] u) :
    ∃ t, deliver l v i s = .next t ∧ t.replies l (.ok v fs) ∧ s.profileStored t l p x e := by
  have hheard : (heard l i s).cfg = s.cfg := (heard_sameBut l s hp).cfg (by decide)
  have hstore : (heard l i s).sameBut [.cfg] u :=
    (storeProfile_sameBut _ p x e).trans hu (List.Subset.refl _) (List.nil_subset _)
  obtain ⟨t, hnext, hreply, ht, hframe, hin⟩ := deliver_taken [.cfg] hr hf hv hp hw hk ho hstore
  have hcfg : t.cfg = ((heard l i s).storeProfile p x e).cfg := (ht.cfg (by decide)).trans (hu.cfg (by decide))
  refine ⟨t, hnext, hreply, ?_, ?_, fun q hq => ?_, ?_, ?_, hframe, hin⟩
  · rw [profile_congr hcfg, storeProfile_profile_same]
  · rw [hcfg, storeProfile_edit]
  · rw [profile_congr hcfg, storeProfile_profile_ne _ _ _ _ hq, profile_congr hheard]
  · rw [settings_congr hcfg, storeProfile_settings, settings_congr hheard]
  · rw [hcfg, storeProfile_marks, hheard]

/-! PE (R12). -/

/-- The state that a validation gives a profile. -/
def verdictState : Option (ProfileFault × Option Nat) → ProfileState
  | none => .valid
  | some (why, _) => .invalid why

/-- A validation as PE answers it. -/
def verdictF : Option (ProfileFault × Option Nat) → List String
  | none => ["VALID"]
  | some (why, k) => ["INVALID", why.text] ++ (k.map numF).toList

/-- PE at the source that owns the edit closes it with the verdict of the validation. -/
theorem doPe_eq {src : Source} {s : State} {p : ProfileIx} {f : ProfileFields} (ho : s.ownsEdit src = some p)
    (hf : (s.profile p).fields = some f) :
    doPe src s = .ok (s.storeProfile p { s.profile p with state := verdictState (validate f (s.profile p).doors) } none)
      (ixF p :: verdictF (validate f (s.profile p).doors)) := by
  unfold doPe
  rw [ho]
  dsimp only
  rw [hf]
  dsimp only
  split
  · next hvalid => rw [hvalid]; rfl
  · next why k hbad => rw [hbad]; cases k <;> rfl

/-- PE on a link that owns the edit. -/
theorem exec_pe {l : Link} {s : State} {p : ProfileIx} {f : ProfileFields} (hr : s.ready l .pe) (ho : s.ownsEdit (.link l) = some p)
    (hf : (s.profile p).fields = some f) :
    ∃ t, exec (.pe l) s = .next t ∧ t.replies l (.ok .pe (ixF p :: verdictF (validate f (s.profile p).doors))) ∧
      s.profileStored t l p { s.profile p with state := verdictState (validate f (s.profile p).doors) } none := by
  have hp : ∀ k b, Instr.pe l ≠ .er k (some b) := by intro k b h; cases h
  have hcfg : (heard l (.pe l) s).cfg = s.cfg := (heard_sameBut l s hp).cfg (by decide)
  have hprofile := profile_congr hcfg p
  have hdo := doPe_eq ((ownsEdit_congr hcfg (.link l)).trans ho) ((congrArg Profile.fields hprofile).trans hf)
  rw [hprofile] at hdo
  exact deliver_storeProfile hr rfl rfl hp (fun _ => rfl) (doPe_kept (.link l) _) hdo (State.sameBut.refl [] _)

/-! PX (R13). -/

/-- The edit that is open once profile p is erased. -/
def Store.editWithout (c : Store) (p : ProfileIx) : Option Edit :=
  match c.edit with
  | some e => if e.profile == p then none else some e
  | none => none

theorem editWithout_profile_ne {c : Store} {p : ProfileIx} {e : Edit} (h : c.editWithout p = some e) : e.profile ≠ p := by
  unfold Store.editWithout at h
  split at h
  · split at h
    · cases h
    · next hne =>
      cases h
      simpa using hne
  · cases h

theorem doPx_outOfRange {src : Source} {p : Int} (h : p < 1 ∨ 8 < p) (s : State) : doPx src p s = .no .range := by
  have hix : ix? 8 p = none := dif_neg (by omega)
  unfold doPx
  rw [hix]

/-- What makes PX refuse a profile: a reference to it, or another source's edit of it. -/
def State.eraseBusy (s : State) (src : Source) (p : ProfileIx) : Prop :=
  s.referenced p = true ∨ ((s.profile p).state = .editing ∧ s.ownsEdit src ≠ some p)

theorem eraseBusy_congr {s t : State} (hcfg : t.cfg = s.cfg) (htrk : t.trk = s.trk) (src : Source) (p : ProfileIx) :
    t.eraseBusy src p ↔ s.eraseBusy src p := by
  simp only [State.eraseBusy, referenced_congr htrk, profile_congr hcfg, ownsEdit_congr hcfg]

theorem doPx_busy {src : Source} {s : State} {p : ProfileIx} (h : s.eraseBusy src p) : doPx src (ixInt p) s = .no .busy := by
  unfold doPx ixInt
  rw [ix?_succ']
  dsimp only
  obtain href | ⟨hedit, howner⟩ := h
  · simp [refuseIf, href]
  · simp [refuseIf, hedit, howner]

theorem doPx_free {src : Source} {s : State} {p : ProfileIx} (h : ¬s.eraseBusy src p) :
    doPx src (ixInt p) s =
      .ok (profileListChanged p (s.storeProfile p Profile.reset (s.cfg.editWithout p))) [ixF p] := by
  obtain ⟨href, hedit⟩ := not_or.mp h
  have hown : ((s.profile p).state == .editing && s.ownsEdit src != some p) = false := by
    rw [Bool.eq_false_iff]
    simpa using hedit
  unfold doPx ixInt
  rw [ix?_succ']
  dsimp only
  rw [refuseIf, if_neg href, refuseIf, hown]
  rfl

theorem px_ne_er (l : Link) (p : Int) : ∀ k b, Instr.px l p ≠ .er k (some b) := by
  intro k b h; cases h

theorem heard_eraseBusy (l : Link) (x : Int) (s : State) (p : ProfileIx) :
    (heard l (.px l x) s).eraseBusy (.link l) p ↔ s.eraseBusy (.link l) p :=
  eraseBusy_congr ((heard_sameBut l s (px_ne_er l x)).cfg (by decide)) ((heard_sameBut l s (px_ne_er l x)).trk (by decide)) _ p

/-- PX on a link that may erase the profile. -/
theorem exec_px {l : Link} {s : State} {p : ProfileIx} (hr : s.ready l .px) (h : ¬s.eraseBusy (.link l) p) :
    ∃ t, exec (.px l (ixInt p)) s = .next t ∧ t.replies l (.ok .px [ixF p]) ∧
      s.profileStored t l p Profile.reset (s.cfg.editWithout p) := by
  have hp := px_ne_er l (ixInt p)
  have hcfg : (heard l (.px l (ixInt p)) s).cfg = s.cfg := (heard_sameBut l s hp).cfg (by decide)
  have hdo := doPx_free (mt (heard_eraseBusy l (ixInt p) s p).mp h)
  rw [hcfg] at hdo
  exact deliver_storeProfile hr rfl rfl hp (fun _ => rfl) (doPx_kept (.link l) (ixInt p) _) hdo (profileListChanged_sameBut p _)

/-- Settles O27: PE by its verdict (`exec_pe`), PX by whether the profile is free (`exec_px`, `deliver_refused`), and the validation by
its checks. -/
theorem profileEnded : Obligations.ProfileEnded := by
  unfold Obligations.ProfileEnded
  refine ⟨fun l p f s hr ho hf => ?_, fun l p s hr href hown => ?_, fun l p s hr hp => ?_, fun l p s hr hbusy => ?_, fun f ds => ?_⟩
  · obtain ⟨t, hnext, hreply, hprofile, hedit, hrest⟩ := exec_pe hr ho hf
    refine ⟨t, hnext, hedit, by rw [hprofile]; exact hf, by rw [hprofile], fun hvalid => ?_, fun why k hbad => ?_, hrest⟩
    · rw [hvalid] at hprofile hreply
      exact ⟨by rw [hprofile]; rfl, hreply⟩
    · rw [hbad] at hprofile hreply
      exact ⟨by rw [hprofile]; rfl, hreply⟩
  · have hfree : ¬s.eraseBusy (.link l) p := by
      rintro (h | ⟨hediting, hother⟩)
      · exact absurd h (by rw [href]; decide)
      · exact hother (hown hediting)
    obtain ⟨t, hnext, hreply, hprofile, hedit, hrest⟩ := exec_px hr hfree
    exact ⟨t, hnext, hreply, hprofile, fun e he => editWithout_profile_ne (hedit.symm.trans he), hrest⟩
  · exact deliver_refused hr rfl rfl (px_ne_er l p) (doPx_outOfRange hp _)
  · exact deliver_refused hr rfl rfl (px_ne_er l (ixInt p)) (doPx_busy ((heard_eraseBusy l (ixInt p) s p).mpr hbusy))
  · refine ⟨?_, ?_, fun k => ?_⟩
    · simp only [validate_eq_none_iff, firstBad_eq_none_iff, badOrder_eq_none_iff, Bool.not_eq_false', TrainDoor.widthOk_iff,
        decide_eq_false_iff_not, Nat.not_lt]
    · rintro rfl
      exact validate_nil f
    · rw [validate_eq_width_iff]
      simp only [firstBad_eq_some_iff, Bool.not_eq_true', Bool.not_eq_false']
      constructor
      · rintro ⟨j, rfl, n, d, rfl, h⟩
        exact ⟨n, d, rfl, h⟩
      · rintro ⟨n, d, rfl, h⟩
        exact ⟨n + 1, rfl, n, d, rfl, h⟩

end Sys2Proof.Machine
end

section
/-! SUPPORT. The alignment unit: the head estimate by the values present and how they agree (R43 to R45), and a run that ends without a
map. -/

namespace Sys2Proof.Machine

/-! Differences of distances. -/

/-- Two distances are within a bound where neither exceeds the other by more than it. -/
theorem dist_le_iff (a b n : Nat) : dist a b ≤ n ↔ a ≤ b + n ∧ b ≤ a + n := by
  unfold dist
  omega

/-- The difference of two distances is the size of their signed difference, as R44 writes it. -/
theorem dist_eq_natAbs (a b : Nat) : dist a b = ((a : Int) - b).natAbs := by
  unfold dist
  omega

/-! The rows of R44: both values present. -/

section
variable {f : ProfileFields} {a b r : Nat}

/-- Values that agree give their midpoint, whatever the train link reports. -/
theorem headEstimate_of_agree (h : dist a b ≤ f.dagree) (x : Option Nat) :
    headEstimate f x (some a) (some b) = .at_ ((a + b) / 2) true true .dual := if_pos h

/-- Values that disagree with nothing reported give no estimate. -/
theorem headEstimate_of_disagree (h : ¬dist a b ≤ f.dagree) : headEstimate f none (some a) (some b) = .fault .disagree := if_neg h

/-- Values that disagree are settled by the reported position: A unless B is the nearer. -/
theorem headEstimate_of_reported (h : ¬dist a b ≤ f.dagree) :
    headEstimate f (some r) (some a) (some b) =
      if dist a r ≤ dist b r then .at_ a true false .arbitrated else .at_ b false true .arbitrated := if_neg h

theorem headEstimate_nearerA (h : ¬dist a b ≤ f.dagree) (hr : dist a r ≤ dist b r) :
    headEstimate f (some r) (some a) (some b) = .at_ a true false .arbitrated :=
  (headEstimate_of_reported h).trans (if_pos hr)

theorem headEstimate_nearerB (h : ¬dist a b ≤ f.dagree) (hr : dist b r < dist a r) :
    headEstimate f (some r) (some a) (some b) = .at_ b false true .arbitrated :=
  (headEstimate_of_reported h).trans (if_neg (Nat.not_le.mpr hr))

end

/-! R45: one value present, or none. -/

section
variable (f : ProfileFields)

@[simp] theorem headEstimate_onlyA (x : Option Nat) (a : Nat) : headEstimate f x (some a) none = .at_ a true false .single := rfl

@[simp] theorem headEstimate_onlyB (x : Option Nat) (b : Nat) : headEstimate f x none (some b) = .at_ b false true .single := rfl

@[simp] theorem headEstimate_onlyReported (r : Nat) :
    headEstimate f (some r) none none = if f.rep then .at_ r false false .reported else .fault .noPosition := rfl

@[simp] theorem headEstimate_nothing : headEstimate f none none none = .fault .noPosition := rfl

end

/-! A run of alignment, by its head estimate. -/

section
variable {s : State} {b : Berth} {p : ProfileIx} {f : ProfileFields} {va vb : Option Nat}

/-- Without a head estimate a run leaves an ALIGN_FAULT record that names the reason. -/
theorem align_of_fault {why : AlignFault} (hp : b.profile = some p) (hf : (s.profile p).fields = some f)
    (he : headEstimate f b.r va vb = .fault why) :
    s.align b va vb = { b.unaligned .alignFault with fault := some why } := by
  unfold State.align
  simp only [hp, hf, he]

end

/-- Settles O33: the estimate by the values present and, of two, by whether they agree (`dist_le_iff`) and which is the nearer
(`dist_eq_natAbs`); the run that ends without one by `align_of_fault`. -/
theorem headEstimated : Obligations.HeadEstimated := by
  unfold Obligations.HeadEstimated
  intro f a b r
  refine ⟨fun hagree x => ?agree, fun hdis => ?disagree, fun x => ?single, ?reported, ?nothing, fun w x p va vb why hp hf he => ?run⟩
  case agree => exact headEstimate_of_agree ((dist_le_iff a b _).mpr hagree) x
  case disagree =>
    have hfar : ¬dist a b ≤ f.dagree := by
      rw [dist_le_iff]
      omega
    rw [← dist_eq_natAbs, ← dist_eq_natAbs]
    exact ⟨headEstimate_of_disagree hfar, headEstimate_nearerA hfar, headEstimate_nearerB hfar⟩
  case single => exact ⟨headEstimate_onlyA f x a, headEstimate_onlyB f x b⟩
  case reported => exact headEstimate_onlyReported f r
  case nothing => exact headEstimate_nothing f
  case run =>
    rw [align_of_fault hp hf he]
    exact ⟨rfl, rfl, rfl⟩

end Sys2Proof.Machine
end
